-- ==== Sys2Proof/Word.lean ====
section
/-! DEFINITION. The byte and the byte sequence, the only data the block moves (spec R14, R60). -/

namespace Sys2Proof

/-- A byte: 8 bits, bit 0 least significant (R14). -/
abbrev Byte := BitVec 8

/-- A byte sequence, index 0 first on the wire (R14, R60). -/
abbrev Bytes := List Byte

end Sys2Proof
end

