-- ==== Sys2Proof/Config.lean ====
section
/-! DEFINITION. The configuration record `Cfg` of R6 to R13, its defaults, its constraints (R293), and the free values:
constants without a body, of which no proof can see a value. -/

namespace Sys2Proof

/-- A two-byte link-control pattern (R10). -/
structure Pattern where
  first : Byte
  second : Byte
deriving DecidableEq, Repr

/-- The two bytes of a pattern, first byte first. -/
def Pattern.bytes (p : Pattern) : Bytes := [p.first, p.second]

/-- The parameter `hdr_checksum` (R11): the default function, or any of a family of uninterpreted ones (U5). -/
inductive HdrChecksum where
  /-- The byte that makes the four header bytes sum to 0 modulo 256: the default of R11. -/
  | sumToZero
  /-- The `n`-th uninterpreted function of the three header bytes. -/
  | uninterpreted (n : Nat)
deriving DecidableEq, Repr

/-- The parameter `is_io_error` (R12, U18): uninterpreted, or a given set of status codes. -/
inductive IoErrorClass where
  /-- The spec gives no default: an uninterpreted predicate. -/
  | uninterpreted
  /-- Exactly the listed codes are I/O errors. -/
  | codes (l : List (BitVec 32))
deriving DecidableEq, Repr

/-- The answer of the transport to a request on TQ (R111); the choice is the environment's (R262 (d)). -/
inductive Answer where
  | ok
  | err
deriving DecidableEq, Repr, Inhabited

/-- The configuration record of one instance of the block (R6 to R13). Durations are in milliseconds (R7). -/
structure Cfg where
  /-- RETX_INTERVAL (R7). -/
  retxInterval : Nat
  /-- RETRY_BUDGET (R7): the number of transmissions of one packet. -/
  retryBudget : Nat
  /-- RESET_SETTLE (R7). -/
  resetSettle : Nat
  /-- OPEN_TIMEOUT (R7). -/
  openTimeout : Nat
  /-- DELIM (R8). -/
  delim : Byte
  /-- ESC (R8). -/
  esc : Byte
  /-- ESC_DELIM (R8): stands for a literal delimiter. -/
  escDelim : Byte
  /-- ESC_ESC (R8): stands for a literal escape byte. -/
  escEsc : Byte
  /-- PT_VENDOR (R9). -/
  ptVendor : BitVec 4
  /-- PT_RESET (R9). -/
  ptReset : BitVec 4
  /-- PT_LINK_CONTROL (R9). -/
  ptLinkControl : BitVec 4
  /-- SYNC_PAT (R10). -/
  syncPat : Pattern
  /-- SYNC_RSP_PAT (R10). -/
  syncRspPat : Pattern
  /-- CONFIG_PAT (R10). -/
  configPat : Pattern
  /-- CONFIG_RSP_PAT (R10). -/
  configRspPat : Pattern
  /-- CONFIG_FIELD (R10): the configuration byte this block transmits. -/
  configField : Byte
  /-- hdr_checksum (R11). -/
  hdrChecksum : HdrChecksum
  /-- INTEGRITY_LEN (R11). -/
  integrityLen : Nat
  /-- TX_INTEGRITY (R11). -/
  txIntegrity : Bool
  /-- RX_BUF_MAX (R12). -/
  rxBufMax : Nat
  /-- TICK_MS (R12). -/
  tickMs : Nat
  /-- is_io_error (R12). -/
  ioErrors : IoErrorClass
deriving DecidableEq, Repr

namespace Config

/-- The longest payload, fixed by the 12-bit length field (R6). -/
abbrev maxPayload : Nat := 4095

/-- HEADER_LEN, fixed by the source (R6). -/
abbrev headerLen : Nat := 4

/-- PT_ACK, fixed by the source (R6). -/
abbrev ptAck : BitVec 4 := 0

/-- The uninterpreted header checksums of `HdrChecksum.uninterpreted` (R11, U5; log 3). -/
opaque freeHdrChecksum : Nat → Byte → Byte → Byte → Byte

/-- Byte `i` of `integrity_fn` of a byte sequence (R11, R101, U6; log 3): uninterpreted. -/
opaque integrityByte : Bytes → Nat → Byte

/-- `is_io_error` where the parameter is left uninterpreted (R12, U18; log 3). -/
opaque freeIsIoError : BitVec 32 → Bool

/-- The answer of the transport when the environment has listed none (R22, U19; log 5). -/
opaque freeAnswer : Nat → Answer

/-- What `rem` of a timer holds after a disarm (R44, U21; log 6). -/
opaque freeRem : Nat → BitVec 16

/-- What `tx_frame` holds after OPEN, after hardware reset and once a SEND has ended (R41, R51, U21; log 6). -/
opaque freeFrame : Nat → Bytes

end Config

namespace Cfg

/-- The defaults of R7 to R12. Those of R8 to R11 are marked by the spec itself as general knowledge (log 16). -/
def default : Cfg where
  retxInterval := 250
  retryBudget := 6
  resetSettle := 300
  openTimeout := 3000
  delim := 0xC0
  esc := 0xDB
  escDelim := 0xDC
  escEsc := 0xDD
  ptVendor := 14
  ptReset := 5
  ptLinkControl := 15
  syncPat := ⟨0x01, 0x7E⟩
  syncRspPat := ⟨0x02, 0x7D⟩
  configPat := ⟨0x03, 0xFC⟩
  configRspPat := ⟨0x04, 0x7B⟩
  configField := 0x11
  hdrChecksum := .sumToZero
  integrityLen := 1
  txIntegrity := false
  rxBufMax := 8200
  tickMs := 1
  ioErrors := .uninterpreted

end Cfg

end Sys2Proof
end

