-- ==== Sys2Proof/Syntax.lean ====
section
/-! DEFINITION. The names of the spec as types (states, causes, result codes, packets, packet kinds), the operations of the
opcode table as one inductive, and the messages in which the operations are encoded. -/

namespace Sys2Proof

/-- ConnectionState (R23). -/
inductive ConnState where
  | start
  | reset
  | uninitialized
  | initialized
  | active
  | failed
  | noResponse
  | closed
deriving DecidableEq, Repr

/-- The cause of a STATUS indication (R110). -/
inductive Cause where
  | opened
  | resetDone
  | peerResponded
  | retryExhausted
  | peerResync
  | ackMismatch
  | ioError
  | close
deriving DecidableEq, Repr

/-- The result codes of HR, of the codec ports and of the log (R109). -/
inductive ResultCode where
  | ok
  | invalidState
  | timeout
  | noResponse
  | maxRetriesReached
  | closed
  | transportError
  | invalidLength
  | malformedFrame
  | headerChecksumMismatch
  | lengthMismatch
  | payloadChecksumMismatch
deriving DecidableEq, Repr

/-- The record PKT.DECODE returns, in the source's order (R152). -/
structure Packet where
  payload : Bytes
  seq : BitVec 3
  ack : BitVec 3
  integrityChecked : Bool
  payloadLength : BitVec 12
  headerChecksum : Byte
  reliable : Bool
  type : BitVec 4
deriving DecidableEq, Repr

/-- The kind of a decoded packet (R104). -/
inductive PacketKind where
  | ack
  | data
  | dataUnrel
  | reset
  | sync
  | syncRsp
  | config
  | configRsp
  | other
deriving DecidableEq, Repr

/-- The operations of the block: one constructor for each row of spec/opcode_table.json, in its order (R113). -/
inductive Instr where
  /-- DELIM: the frame boundary arrives (R90, R138). -/
  | delim
  /-- ESC_DELIM_TOKEN: `ESC, ESC_DELIM` arrives (R91 (a)). -/
  | escDelimToken
  /-- ESC_ESC_TOKEN: `ESC, ESC_ESC` arrives (R91 (b)). -/
  | escEscToken
  /-- LITERAL: a byte that stands for itself arrives (R91 (c)). -/
  | literal (b : Byte)
  /-- ESC_INVALID: ESC and another byte, or ESC at the end of the body (R91 (d), R106 (a)). -/
  | escInvalid (x : Option Byte)
  /-- K_ACK (R104 line 1). -/
  | kAck (d : Packet)
  /-- K_DATA (R104 line 2). -/
  | kData (d : Packet)
  /-- K_DATA_UNREL (R104 line 3). -/
  | kDataUnrel (d : Packet)
  /-- K_RESET (R104 line 4). -/
  | kReset (d : Packet)
  /-- K_SYNC (R104 line 5). -/
  | kSync (d : Packet)
  /-- K_SYNC_RSP (R104 line 6). -/
  | kSyncRsp (d : Packet)
  /-- K_CONFIG (R104 line 7). -/
  | kConfig (d : Packet)
  /-- K_CONFIG_RSP (R104 line 8). -/
  | kConfigRsp (d : Packet)
  /-- K_OTHER (R104 line 9). -/
  | kOther (d : Packet)
  /-- RESET_FRAME (R105). -/
  | resetFrame
  /-- SYNC_FRAME (R105). -/
  | syncFrame
  /-- SYNC_RSP_FRAME (R105). -/
  | syncRspFrame
  /-- CONFIG_FRAME (R105). -/
  | configFrame
  /-- CONFIG_RSP_FRAME (R105). -/
  | configRspFrame
  /-- ACK_FRAME(a) (R105, R222). -/
  | ackFrame (a : BitVec 3)
  /-- DATA_FRAME(p, s, a) (R105, R214). -/
  | dataFrame (p : Bytes) (sq a : BitVec 3)
  /-- FRAME.ENCODE(p) on port FE (R131). -/
  | frameEncode (p : Bytes)
  /-- FRAME.DECODE(f) on port FD (R133). -/
  | frameDecode (f : Bytes)
  /-- PKT.ENCODE on port PE, arguments in the source's order (R150, R151). -/
  | pktEncode (p : Bytes) (seq ack : Byte) (reliable integrity : Bool) (type : BitVec 4)
  /-- PKT.DECODE(k) on port PD (R152). -/
  | pktDecode (k : Bytes)
  /-- SEQ.INC(n) (R155). -/
  | seqInc (n : BitVec 3)
  /-- OPEN on HC (R171). -/
  | hostOpen
  /-- CLOSE on HC (R173). -/
  | hostClose
  /-- SEND(p) on HC (R213). -/
  | hostSend (p : Bytes)
  /-- T_DATA(bs) on TI (R136). -/
  | tData (bs : Bytes)
  /-- T_STATUS(code, m) on TI (R250). -/
  | tStatus (code : BitVec 32) (m : Bytes)
  /-- T_LOG(sev, m) on TI (R251). -/
  | tLog (sev : Byte) (m : Bytes)
  /-- RX.BYTE (R138). -/
  | rxByte
  /-- RX.FRAME(chunk, ovf) (R139). -/
  | rxFrame (chunk : Bytes) (ovf : Bool)
  /-- RX.SYNC_RSP (R197). -/
  | rxSyncRsp
  /-- RX.SYNC (R198). -/
  | rxSync
  /-- RX.SYNC.ACTIVE (R226). -/
  | rxSyncActive
  /-- RX.CONFIG_RSP (R199). -/
  | rxConfigRsp
  /-- RX.CONFIG (R200). -/
  | rxConfig
  /-- RX.ACK(d) (R220). -/
  | rxAck (d : Packet)
  /-- RX.DATA(d) (R224). -/
  | rxData (d : Packet)
  /-- SEQ.ABORT (R178). -/
  | seqAbort
  /-- SEQ.START (R179). -/
  | seqStart
  /-- SEQ.RESET (R181). -/
  | seqReset
  /-- SEQ.UNINIT.OK (R187). -/
  | seqUninitOk
  /-- SEQ.UNINIT.NR (R188). -/
  | seqUninitNr
  /-- SEQ.INIT.OK (R193). -/
  | seqInitOk
  /-- SEQ.INIT.NR (R194). -/
  | seqInitNr
  /-- SEQ.ACTIVE (R228). -/
  | seqActive
  /-- CLOSE.DONE (R174). -/
  | closeDone
  /-- TX.ABORT (R218). -/
  | txAbort
  /-- T_SM.EXPIRE (R195). -/
  | tSmExpire
  /-- T_TX.EXPIRE (R216). -/
  | tTxExpire
  /-- T_OPEN.EXPIRE (R175). -/
  | tOpenExpire
  /-- TICK (R44). -/
  | tick
  /-- HW_RESET (R281, R282). -/
  | hwReset
deriving DecidableEq, Repr

/-- The formats of the opcode table (R113). Each has its own wires, so equal bytes on two of them are two messages. -/
inductive Format where
  | slip
  | h5hdr
  | txframe
  | fn
  | hc
  | ti
  | evt
deriving DecidableEq, Repr

/-- An encoded operation: the format it is presented in and its bytes, first byte first. -/
structure Message where
  format : Format
  bytes : Bytes
deriving DecidableEq, Repr

/-- Why a message is no operation, by name. -/
inductive DecodeError where
  /-- No byte at all. -/
  | empty
  /-- Bytes follow where the operation takes none. -/
  | trailingBytes
  /-- SLIP: more than one token. -/
  | moreThanOneToken
  /-- H5HDR: fewer than the four header bytes. -/
  | shortHeader
  /-- H5HDR: the byte count is not 4 plus the declared length. -/
  | payloadLengthMismatch
  /-- TXFRAME: the bytes are not one of the seven templates of R105. -/
  | notATemplate
  /-- FN: no codec function has this code. -/
  | unknownFunction
  /-- FN, TI, EVT: an operand is missing or out of its range. -/
  | badOperand
  /-- HC: `cmd` = 0, no command (R108). -/
  | noCommand
  /-- TI: `ind` = 0, no indication (R111). -/
  | noIndication
  /-- HC, TI: a bit above the two code bits is set. -/
  | bitsAbovePortCode
  /-- EVT: no event has this code. -/
  | unknownEvent
deriving DecidableEq, Repr

end Sys2Proof
end

