-- ==== Sys2Proof/Machine/Codec.lean ====
section
/-! DEFINITION. The pure functions of the block: frame codec (R130 to R135), packet codec (R150 to R158), packet kinds (R104),
the transmitted templates (R105), timer ticks (R45), the parameter constraints (R293) and the port codes (R23, R108 to R111). -/

namespace Sys2Proof.Machine

/-! ### Parameters -/

/-- `hdr_checksum(b0, b1, b2)` (R11): by default the byte that makes the four bytes sum to 0 modulo 256. -/
def hdrChecksum (c : Cfg) (b0 b1 b2 : Byte) : Byte :=
  match c.hdrChecksum with
  | .sumToZero => -(b0 + b1 + b2)
  | .uninterpreted n => Config.freeHdrChecksum n b0 b1 b2

/-- `integrity_fn(k)` (R11, R101): INTEGRITY_LEN uninterpreted bytes of the header and the payload. -/
def integrityFn (c : Cfg) (k : Bytes) : Bytes :=
  (List.range c.integrityLen).map (Config.integrityByte k)

/-- `is_io_error(code)` (R12, R250). -/
def isIoError (c : Cfg) (code : BitVec 32) : Bool :=
  match c.ioErrors with
  | .uninterpreted => Config.freeIsIoError code
  | .codes l => l.contains code

/-- `ticks(d)` = ceil(d / TICK_MS) (R45). -/
def ticks (c : Cfg) (d : Nat) : Nat := (d + c.tickMs - 1) / c.tickMs

/-- A duration is between 1 and 65535 ticks (R45). -/
def durationOk (c : Cfg) (d : Nat) : Bool := decide (1 ≤ ticks c d) && decide (ticks c d ≤ 65535)

/-- The four framing bytes are pairwise distinct (R8). -/
def framingOk (c : Cfg) : Bool := decide [c.delim, c.esc, c.escDelim, c.escEsc].Nodup

/-- The four type codes are pairwise distinct (R9). -/
def typesOk (c : Cfg) : Bool := decide [Config.ptAck, c.ptVendor, c.ptReset, c.ptLinkControl].Nodup

/-- The four control patterns are pairwise distinct (R10). -/
def patternsOk (c : Cfg) : Bool := decide [c.syncPat, c.syncRspPat, c.configPat, c.configRspPat].Nodup

/-- RETRY_BUDGET is between 1 and 255 (R7, R28). -/
def budgetOk (c : Cfg) : Bool := decide (1 ≤ c.retryBudget) && decide (c.retryBudget ≤ 255)

/-- The constraints on parameters under which the rules hold (R293). -/
def cfgValid (c : Cfg) : Bool :=
  framingOk c && typesOk c && patternsOk c && budgetOk c && decide (1 ≤ c.tickMs)
    && durationOk c c.retxInterval && durationOk c c.resetSettle && durationOk c c.openTimeout

/-- The longest stuffed body of a packet (R12, R135). -/
def maxBody (c : Cfg) : Nat := 2 * (Config.headerLen + Config.maxPayload + c.integrityLen)

/-- The capacity of `tx_frame` (R41). -/
def txFrameCapacity (c : Cfg) : Nat := maxBody c + 2

/-! ### Frame codec -/

/-- `stuff(b)` for one byte (R130). -/
def stuffByte (c : Cfg) (b : Byte) : Bytes :=
  if b = c.delim then [c.esc, c.escDelim] else if b = c.esc then [c.esc, c.escEsc] else [b]

/-- `stuff(p)` for a byte sequence (R130). -/
def stuff (c : Cfg) : Bytes → Bytes
  | [] => []
  | b :: p => stuffByte c b ++ stuff c p

/-- `FRAME.ENCODE(p)` (R131). -/
def encodeFrame (c : Cfg) (p : Bytes) : Bytes := [c.delim] ++ stuff c p ++ [c.delim]

/-- Put one byte in front of a successful result. -/
def consResult (b : Byte) (r : Except ResultCode Bytes) : Except ResultCode Bytes :=
  match r with
  | .ok p => .ok (b :: p)
  | .error e => .error e

/-- `unstuff(body)` (R132): left to right, the byte after ESC is always a substitution byte. -/
def unstuff (c : Cfg) : Bytes → Except ResultCode Bytes
  | [] => .ok []
  | [b] => if b = c.delim then .error .malformedFrame else if b = c.esc then .error .malformedFrame else .ok [b]
  | b :: x :: rest =>
    if b = c.delim then .error .malformedFrame
    else if b = c.esc then
      if x = c.escDelim then consResult c.delim (unstuff c rest)
      else if x = c.escEsc then consResult c.esc (unstuff c rest)
      else .error .malformedFrame
    else consResult b (unstuff c (x :: rest))

/-- `FRAME.DECODE(f)` (R133). -/
def decodeFrame (c : Cfg) (f : Bytes) : Except ResultCode Bytes :=
  if f.length < 2 ∨ f.head? ≠ some c.delim ∨ f.getLast? ≠ some c.delim then .error .malformedFrame
  else unstuff c (f.drop 1).dropLast

/-! ### Packet codec -/

/-- `SEQ.INC(n)` = (n + 1) mod 8 (R155). -/
def seqIncr (n : BitVec 3) : BitVec 3 := n + 1

/-- Header byte 0 (R94 to R97): seq [2:0], ack [5:3], data_integrity [6], reliable [7]. -/
def headerByte0 (seq ack : BitVec 3) (integrity reliable : Bool) : Byte :=
  BitVec.ofBool reliable ++ BitVec.ofBool integrity ++ ack ++ seq

/-- Header byte 1 (R98, R99): type [3:0], the low 4 bits of the length [7:4]. -/
def headerByte1 (type : BitVec 4) (len : BitVec 12) : Byte := len.extractLsb' 0 4 ++ type

/-- Header byte 2 (R99): the high 8 bits of the length. -/
def headerByte2 (len : BitVec 12) : Byte := len.extractLsb' 4 8

/-- Header bytes 0 to 2 and their checksum, header byte 3 (R94, R100). -/
def header (c : Cfg) (seq ack : BitVec 3) (integrity reliable : Bool) (type : BitVec 4) (len : BitVec 12) : Bytes :=
  let b0 := headerByte0 seq ack integrity reliable
  let b1 := headerByte1 type len
  let b2 := headerByte2 len
  [b0, b1, b2, hdrChecksum c b0 b1 b2]

/-- The packet PKT.ENCODE builds once its checks have passed (R150); `seq` and `ack` are already modulo 8. -/
def buildPacket (c : Cfg) (p : Bytes) (seq ack : BitVec 3) (reliable integrity : Bool) (type : BitVec 4) : Bytes :=
  let k := header c seq ack integrity reliable type (BitVec.ofNat 12 p.length) ++ p
  if integrity then k ++ integrityFn c k else k

/-- The outcome of PKT.ENCODE (R151): a packet, the fatal precondition violation, or `InvalidLength`. -/
inductive PktEncoded where
  | packet (k : Bytes)
  | ackWithoutNumber
  | invalidLength
deriving DecidableEq, Repr

/-- `PKT.ENCODE` (R150) with its checks in their order (R151). -/
def encodePkt (c : Cfg) (p : Bytes) (seq ack : Byte) (reliable integrity : Bool) (type : BitVec 4) : PktEncoded :=
  if type = Config.ptAck ∧ ack = 0xFF then .ackWithoutNumber
  else if Config.maxPayload < p.length then .invalidLength
  else .packet (buildPacket c p (seq.setWidth 3) (ack.setWidth 3) reliable integrity type)

/-- The declared payload length, `b1[7:4] + 16 * b2` (R99). -/
def headerLength (b1 b2 : Byte) : BitVec 12 := b2 ++ b1.extractLsb' 4 4

/-- The record of header bytes and payload (R152 lines 4 and 7). -/
def packetOf (b0 b1 b2 b3 : Byte) (payload : Bytes) : Packet where
  payload := payload
  seq := b0.extractLsb' 0 3
  ack := b0.extractLsb' 3 3
  integrityChecked := b0.getLsbD 6
  payloadLength := headerLength b1 b2
  headerChecksum := b3
  reliable := b0.getLsbD 7
  type := b1.extractLsb' 0 4

/-- The number of trailer bytes (R152 line 5). -/
def trailerLength (c : Cfg) (b0 : Byte) : Nat := if b0.getLsbD 6 then c.integrityLen else 0

/-- `PKT.DECODE(k)` (R152), its checks in their order (R153). -/
def decodePkt (c : Cfg) (k : Bytes) : Except ResultCode Packet :=
  match k with
  | b0 :: b1 :: b2 :: b3 :: rest =>
    let len := (headerLength b1 b2).toNat
    if b3 ≠ hdrChecksum c b0 b1 b2 then .error .headerChecksumMismatch
    else if rest.length ≠ len + trailerLength c b0 then .error .lengthMismatch
    else if b0.getLsbD 6 ∧ rest.drop len ≠ integrityFn c (k.take (Config.headerLen + len)) then
      .error .payloadChecksumMismatch
    else .ok (packetOf b0 b1 b2 b3 (rest.take len))
  | _ => .error .lengthMismatch

/-! ### Kinds and templates -/

/-- `kind(d)` (R104): the first line that applies. -/
def kind (c : Cfg) (d : Packet) : PacketKind :=
  if d.type = Config.ptAck then .ack
  else if d.type = c.ptVendor ∧ d.reliable then .data
  else if d.type = c.ptVendor ∧ ¬ d.reliable then .dataUnrel
  else if d.type = c.ptReset then .reset
  else if d.type = c.ptLinkControl ∧ d.payload = c.syncPat.bytes then .sync
  else if d.type = c.ptLinkControl ∧ d.payload = c.syncRspPat.bytes then .syncRsp
  else if d.type = c.ptLinkControl ∧ d.payload.length = 3 ∧ d.payload.take 2 = c.configPat.bytes then .config
  else if d.type = c.ptLinkControl ∧ d.payload.length = 3 ∧ d.payload.take 2 = c.configRspPat.bytes then .configRsp
  else .other

/-- A transmitted frame: FRAME.ENCODE of PKT.ENCODE with `i = TX_INTEGRITY` (R105). -/
def template (c : Cfg) (p : Bytes) (seq ack : BitVec 3) (reliable : Bool) (type : BitVec 4) : Bytes :=
  encodeFrame c (buildPacket c p seq ack reliable c.txIntegrity type)

/-- RESET_FRAME (R105). -/
def resetFrameOf (c : Cfg) : Bytes := template c [] 0 0 false c.ptReset

/-- SYNC_FRAME (R105). -/
def syncFrameOf (c : Cfg) : Bytes := template c c.syncPat.bytes 0 0 false c.ptLinkControl

/-- SYNC_RSP_FRAME (R105). -/
def syncRspFrameOf (c : Cfg) : Bytes := template c c.syncRspPat.bytes 0 0 false c.ptLinkControl

/-- CONFIG_FRAME (R105). -/
def configFrameOf (c : Cfg) : Bytes := template c (c.configPat.bytes ++ [c.configField]) 0 0 false c.ptLinkControl

/-- CONFIG_RSP_FRAME (R105). -/
def configRspFrameOf (c : Cfg) : Bytes :=
  template c (c.configRspPat.bytes ++ [c.configField]) 0 0 false c.ptLinkControl

/-- ACK_FRAME(a) (R105, R222). -/
def ackFrameOf (c : Cfg) (a : BitVec 3) : Bytes := template c [] 0 a false Config.ptAck

/-- DATA_FRAME(p, s, a) (R105, R214). -/
def dataFrameOf (c : Cfg) (p : Bytes) (sq a : BitVec 3) : Bytes := template c p sq a true c.ptVendor

/-! ### Port codes -/

/-- The 3-bit code of a state (R23). -/
def stateCode : ConnState → BitVec 3
  | .start => 0
  | .reset => 1
  | .uninitialized => 2
  | .initialized => 3
  | .active => 4
  | .failed => 5
  | .noResponse => 6
  | .closed => 7

/-- The 4-bit code of a cause (R110). -/
def causeCode : Cause → BitVec 4
  | .opened => 1
  | .resetDone => 2
  | .peerResponded => 3
  | .retryExhausted => 4
  | .peerResync => 5
  | .ackMismatch => 6
  | .ioError => 7
  | .close => 8

/-- The 4-bit code of a result (R109). -/
def resultCode : ResultCode → BitVec 4
  | .ok => 0
  | .invalidState => 1
  | .timeout => 2
  | .noResponse => 3
  | .maxRetriesReached => 4
  | .closed => 5
  | .transportError => 6
  | .invalidLength => 7
  | .malformedFrame => 8
  | .headerChecksumMismatch => 9
  | .lengthMismatch => 10
  | .payloadChecksumMismatch => 11

/-- The code of a transport answer (R111). -/
def answerCode : Answer → BitVec 1
  | .ok => 0
  | .err => 1

end Sys2Proof.Machine
end

