-- ==== Sys2Proof/WellFormed.lean ====
section
/-! DEFINITION. Which terms of `Instr` stand for an operation of the opcode table: the operand conditions of its rows. -/

namespace Sys2Proof

open Machine

/-- The declared length of a packet record equals its payload's length (R99). -/
def Packet.lengthOk (d : Packet) : Bool := decide (d.payload.length = d.payloadLength.toNat)

/-- A packet record of the given kind whose declared length is right (R104). -/
def Packet.isKind (c : Cfg) (k : PacketKind) (d : Packet) : Bool := decide (kind c d = k) && d.lengthOk

/-- A chunk as RX.BYTE hands it to RX.FRAME: delimiters around a body without one, the body not empty unless the chunk has
overflowed (R137, R138). -/
def chunkOk (c : Cfg) (chunk : Bytes) (ovf : Bool) : Bool :=
  let body := (chunk.drop 1).dropLast
  decide (chunk = [c.delim] ++ body ++ [c.delim]) && !body.contains c.delim && (!body.isEmpty || ovf)

/-- The operand conditions of the opcode table's rows. -/
def Instr.wf (c : Cfg) : Instr → Bool
  | .delim => true
  | .escDelimToken => true
  | .escEscToken => true
  | .literal b => decide (b ≠ c.delim) && decide (b ≠ c.esc)
  | .escInvalid none => true
  | .escInvalid (some x) => decide (x ≠ c.escDelim) && decide (x ≠ c.escEsc)
  | .kAck d => d.isKind c .ack
  | .kData d => d.isKind c .data
  | .kDataUnrel d => d.isKind c .dataUnrel
  | .kReset d => d.isKind c .reset
  | .kSync d => d.isKind c .sync
  | .kSyncRsp d => d.isKind c .syncRsp
  | .kConfig d => d.isKind c .config
  | .kConfigRsp d => d.isKind c .configRsp
  | .kOther d => d.isKind c .other
  | .resetFrame => true
  | .syncFrame => true
  | .syncRspFrame => true
  | .configFrame => true
  | .configRspFrame => true
  | .ackFrame _ => true
  | .dataFrame p _ _ => decide (p.length ≤ Config.maxPayload)
  | .frameEncode _ => true
  | .frameDecode _ => true
  | .pktEncode _ _ _ _ _ _ => true
  | .pktDecode _ => true
  | .seqInc _ => true
  | .hostOpen => true
  | .hostClose => true
  | .hostSend _ => true
  | .tData _ => true
  | .tStatus _ _ => true
  | .tLog _ _ => true
  | .rxByte => true
  | .rxFrame chunk ovf => chunkOk c chunk ovf
  | .rxSyncRsp => true
  | .rxSync => true
  | .rxSyncActive => true
  | .rxConfigRsp => true
  | .rxConfig => true
  | .rxAck d => d.isKind c .ack
  | .rxData d => d.isKind c .data
  | .seqAbort => true
  | .seqStart => true
  | .seqReset => true
  | .seqUninitOk => true
  | .seqUninitNr => true
  | .seqInitOk => true
  | .seqInitNr => true
  | .seqActive => true
  | .closeDone => true
  | .txAbort => true
  | .tSmExpire => true
  | .tTxExpire => true
  | .tOpenExpire => true
  | .tick => true
  | .hwReset => true

end Sys2Proof
end

