-- ==== Sys2Proof/Decode.lean ====
section
/-! DEFINITION. The decoder (messages to operations, total, rejecting by name) and the encoder, written from the formats of
R90 to R113. FN, TI operands and EVT have no bit encoding in the spec; their layout is the model's (log 12). -/

namespace Sys2Proof

open Machine

/-! ### Codes of the ports and of the events -/

/-- `cmd` of port HC (R108). -/
def codeOpen : Byte := 1
/-- `cmd` of port HC (R108). -/
def codeClose : Byte := 2
/-- `cmd` of port HC (R108). -/
def codeSend : Byte := 3
/-- `ind` of port TI (R111). -/
def codeTData : Byte := 1
/-- `ind` of port TI (R111). -/
def codeTStatus : Byte := 2
/-- `ind` of port TI (R111). -/
def codeTLog : Byte := 3

/-! ### Shared pieces of the layouts -/

/-- A packet record as header bytes and payload (R94, R99); byte 3 is the record's own checksum field. -/
def recordBytes (d : Packet) : Bytes :=
  [headerByte0 d.seq d.ack d.integrityChecked d.reliable, headerByte1 d.type d.payloadLength,
    headerByte2 d.payloadLength, d.headerChecksum] ++ d.payload

/-- Read a packet record (R94); the declared length must be the payload's (R99). -/
def readRecord : Bytes → Except DecodeError Packet
  | b0 :: b1 :: b2 :: b3 :: p =>
    if p.length ≠ (headerLength b1 b2).toNat then .error .payloadLengthMismatch else .ok (packetOf b0 b1 b2 b3 p)
  | _ => .error .shortHeader

/-- A 32-bit status code as four bytes, least significant first (log 12). -/
def statusBytes (code : BitVec 32) : Bytes :=
  [code.extractLsb' 0 8, code.extractLsb' 8 8, code.extractLsb' 16 8, code.extractLsb' 24 8]

/-- One bit as a byte. -/
def bitByte (b : Bool) : Byte := if b then 1 else 0

/-- The two flag operands of PKT.ENCODE as a byte: reliable in bit 0, integrity in bit 1 (log 12). -/
def flagByte (reliable integrity : Bool) : Byte := BitVec.ofBool integrity ++ BitVec.ofBool reliable |>.setWidth 8

/-- An operation that takes no operand: nothing may follow its code. -/
def noOperand (i : Instr) (rest : Bytes) : Except DecodeError Instr :=
  if rest = [] then .ok i else .error .trailingBytes

/-! ### One decoder for each format -/

/-- The token at the head of a byte sequence and the bytes after it (R91, R107). -/
def decodeToken (c : Cfg) : Bytes → Except DecodeError (Instr × Bytes)
  | [] => .error .empty
  | b :: rest =>
    if b = c.delim then .ok (.delim, rest)
    else if b = c.esc then
      match rest with
      | [] => .ok (.escInvalid none, [])
      | x :: rest' =>
        if x = c.escDelim then .ok (.escDelimToken, rest')
        else if x = c.escEsc then .ok (.escEscToken, rest')
        else .ok (.escInvalid (some x), rest')
    else .ok (.literal b, rest)

/-- Format SLIP: exactly one token. -/
def decodeSlip (c : Cfg) (bs : Bytes) : Except DecodeError Instr :=
  match decodeToken c bs with
  | .ok (i, []) => .ok i
  | .ok (_, _ :: _) => .error .moreThanOneToken
  | .error e => .error e

/-- The packet-kind operation of a decoded packet (R104). -/
def kindInstr (c : Cfg) (d : Packet) : Instr :=
  match kind c d with
  | .ack => .kAck d
  | .data => .kData d
  | .dataUnrel => .kDataUnrel d
  | .reset => .kReset d
  | .sync => .kSync d
  | .syncRsp => .kSyncRsp d
  | .config => .kConfig d
  | .configRsp => .kConfigRsp d
  | .other => .kOther d

/-- Format H5HDR: header word and payload (R94, R104, R113). -/
def decodeKind (c : Cfg) (bs : Bytes) : Except DecodeError Instr :=
  match readRecord bs with
  | .ok d => .ok (kindInstr c d)
  | .error e => .error e

/-- The template of R105 that a decoded packet is an instance of. -/
def templateInstr (c : Cfg) (d : Packet) : Except DecodeError Instr :=
  if d.integrityChecked ≠ c.txIntegrity then .error .notATemplate
  else if d.type = c.ptVendor ∧ d.reliable then .ok (.dataFrame d.payload d.seq d.ack)
  else if d.reliable ∨ d.seq ≠ 0 then .error .notATemplate
  else if d.type = Config.ptAck ∧ d.payload = [] then .ok (.ackFrame d.ack)
  else if d.ack ≠ 0 then .error .notATemplate
  else if d.type = c.ptReset ∧ d.payload = [] then .ok .resetFrame
  else if d.type ≠ c.ptLinkControl then .error .notATemplate
  else if d.payload = c.syncPat.bytes then .ok .syncFrame
  else if d.payload = c.syncRspPat.bytes then .ok .syncRspFrame
  else if d.payload = c.configPat.bytes ++ [c.configField] then .ok .configFrame
  else if d.payload = c.configRspPat.bytes ++ [c.configField] then .ok .configRspFrame
  else .error .notATemplate

/-- Format TXFRAME: a whole frame on the wire (R105). -/
def decodeTx (c : Cfg) (bs : Bytes) : Except DecodeError Instr :=
  match decodeFrame c bs with
  | .error _ => .error .notATemplate
  | .ok k =>
    match decodePkt c k with
    | .error _ => .error .notATemplate
    | .ok d => templateInstr c d

/-- Format FN: code of the function port, then its operands (R21, log 12). -/
def decodeFn : Bytes → Except DecodeError Instr
  | [] => .error .empty
  | f :: rest =>
    if f = 1 then .ok (.frameEncode rest)
    else if f = 2 then .ok (.frameDecode rest)
    else if f = 3 then
      match rest with
      | seq :: ack :: flags :: type :: p =>
        if flags.toNat < 4 ∧ type.toNat < 16 then
          .ok (.pktEncode p seq ack (flags.getLsbD 0) (flags.getLsbD 1) (type.setWidth 4))
        else .error .badOperand
      | _ => .error .badOperand
    else if f = 4 then .ok (.pktDecode rest)
    else if f = 5 then
      match rest with
      | [n] => if n.toNat < 8 then .ok (.seqInc (n.setWidth 3)) else .error .badOperand
      | _ => .error .badOperand
    else .error .unknownFunction

/-- Format HC: `cmd`, then the payload of SEND (R108). -/
def decodeHc : Bytes → Except DecodeError Instr
  | [] => .error .empty
  | cmd :: rest =>
    if cmd = 0 then .error .noCommand
    else if cmd = codeOpen then noOperand .hostOpen rest
    else if cmd = codeClose then noOperand .hostClose rest
    else if cmd = codeSend then .ok (.hostSend rest)
    else .error .bitsAbovePortCode

/-- Format TI: `ind`, then the operands (R111, log 12). -/
def decodeTi : Bytes → Except DecodeError Instr
  | [] => .error .empty
  | ind :: rest =>
    if ind = 0 then .error .noIndication
    else if ind = codeTData then .ok (.tData rest)
    else if ind = codeTStatus then
      match rest with
      | c0 :: c1 :: c2 :: c3 :: m => .ok (.tStatus (c3 ++ c2 ++ c1 ++ c0) m)
      | _ => .error .badOperand
    else if ind = codeTLog then
      match rest with
      | sev :: m => .ok (.tLog sev m)
      | [] => .error .badOperand
    else .error .bitsAbovePortCode

/-- The operands of RX.FRAME: the overflow bit, then the chunk. -/
def decodeRxFrame (c : Cfg) : Bytes → Except DecodeError Instr
  | [] => .error .badOperand
  | o :: chunk =>
    if o.toNat < 2 ∧ chunkOk c chunk (o.getLsbD 0) then .ok (.rxFrame chunk (o.getLsbD 0)) else .error .badOperand

/-- The operand of RX.ACK or RX.DATA: a packet record of the handler's kind. -/
def decodeHandler (c : Cfg) (k : PacketKind) (make : Packet → Instr) (bs : Bytes) : Except DecodeError Instr :=
  match readRecord bs with
  | .ok d => if kind c d = k then .ok (make d) else .error .badOperand
  | .error e => .error e

/-- The events without operand, by code: the EVT rows in the table's order (log 12). -/
def plainEvent (n : Byte) : Option Instr :=
  if n = 1 then some .rxByte
  else if n = 3 then some .rxSyncRsp
  else if n = 4 then some .rxSync
  else if n = 5 then some .rxSyncActive
  else if n = 6 then some .rxConfigRsp
  else if n = 7 then some .rxConfig
  else if n = 10 then some .seqAbort
  else if n = 11 then some .seqStart
  else if n = 12 then some .seqReset
  else if n = 13 then some .seqUninitOk
  else if n = 14 then some .seqUninitNr
  else if n = 15 then some .seqInitOk
  else if n = 16 then some .seqInitNr
  else if n = 17 then some .seqActive
  else if n = 18 then some .closeDone
  else if n = 19 then some .txAbort
  else if n = 20 then some .tSmExpire
  else if n = 21 then some .tTxExpire
  else if n = 22 then some .tOpenExpire
  else if n = 23 then some .tick
  else if n = 24 then some .hwReset
  else none

/-- Format EVT: the number of the step, then its operands (R113, log 12). -/
def decodeEvt (c : Cfg) : Bytes → Except DecodeError Instr
  | [] => .error .empty
  | n :: rest =>
    if n = 2 then decodeRxFrame c rest
    else if n = 8 then decodeHandler c .ack .rxAck rest
    else if n = 9 then decodeHandler c .data .rxData rest
    else
      match plainEvent n with
      | some i => noOperand i rest
      | none => .error .unknownEvent

/-- The decoder: total on every message, rejecting by name. -/
def decode (c : Cfg) (m : Message) : Except DecodeError Instr :=
  match m.format with
  | .slip => decodeSlip c m.bytes
  | .h5hdr => decodeKind c m.bytes
  | .txframe => decodeTx c m.bytes
  | .fn => decodeFn m.bytes
  | .hc => decodeHc m.bytes
  | .ti => decodeTi m.bytes
  | .evt => decodeEvt c m.bytes

/-! ### The encoder -/

/-- The message that stands for an operation, from the same tables. -/
def encode (c : Cfg) : Instr → Message
  | .delim => ⟨.slip, [c.delim]⟩
  | .escDelimToken => ⟨.slip, [c.esc, c.escDelim]⟩
  | .escEscToken => ⟨.slip, [c.esc, c.escEsc]⟩
  | .literal b => ⟨.slip, [b]⟩
  | .escInvalid none => ⟨.slip, [c.esc]⟩
  | .escInvalid (some x) => ⟨.slip, [c.esc, x]⟩
  | .kAck d => ⟨.h5hdr, recordBytes d⟩
  | .kData d => ⟨.h5hdr, recordBytes d⟩
  | .kDataUnrel d => ⟨.h5hdr, recordBytes d⟩
  | .kReset d => ⟨.h5hdr, recordBytes d⟩
  | .kSync d => ⟨.h5hdr, recordBytes d⟩
  | .kSyncRsp d => ⟨.h5hdr, recordBytes d⟩
  | .kConfig d => ⟨.h5hdr, recordBytes d⟩
  | .kConfigRsp d => ⟨.h5hdr, recordBytes d⟩
  | .kOther d => ⟨.h5hdr, recordBytes d⟩
  | .resetFrame => ⟨.txframe, resetFrameOf c⟩
  | .syncFrame => ⟨.txframe, syncFrameOf c⟩
  | .syncRspFrame => ⟨.txframe, syncRspFrameOf c⟩
  | .configFrame => ⟨.txframe, configFrameOf c⟩
  | .configRspFrame => ⟨.txframe, configRspFrameOf c⟩
  | .ackFrame a => ⟨.txframe, ackFrameOf c a⟩
  | .dataFrame p sq a => ⟨.txframe, dataFrameOf c p sq a⟩
  | .frameEncode p => ⟨.fn, 1 :: p⟩
  | .frameDecode f => ⟨.fn, 2 :: f⟩
  | .pktEncode p seq ack reliable integrity type =>
    ⟨.fn, 3 :: seq :: ack :: flagByte reliable integrity :: type.setWidth 8 :: p⟩
  | .pktDecode k => ⟨.fn, 4 :: k⟩
  | .seqInc n => ⟨.fn, [5, n.setWidth 8]⟩
  | .hostOpen => ⟨.hc, [codeOpen]⟩
  | .hostClose => ⟨.hc, [codeClose]⟩
  | .hostSend p => ⟨.hc, codeSend :: p⟩
  | .tData bs => ⟨.ti, codeTData :: bs⟩
  | .tStatus code m => ⟨.ti, codeTStatus :: (statusBytes code ++ m)⟩
  | .tLog sev m => ⟨.ti, codeTLog :: sev :: m⟩
  | .rxByte => ⟨.evt, [1]⟩
  | .rxFrame chunk ovf => ⟨.evt, 2 :: bitByte ovf :: chunk⟩
  | .rxSyncRsp => ⟨.evt, [3]⟩
  | .rxSync => ⟨.evt, [4]⟩
  | .rxSyncActive => ⟨.evt, [5]⟩
  | .rxConfigRsp => ⟨.evt, [6]⟩
  | .rxConfig => ⟨.evt, [7]⟩
  | .rxAck d => ⟨.evt, 8 :: recordBytes d⟩
  | .rxData d => ⟨.evt, 9 :: recordBytes d⟩
  | .seqAbort => ⟨.evt, [10]⟩
  | .seqStart => ⟨.evt, [11]⟩
  | .seqReset => ⟨.evt, [12]⟩
  | .seqUninitOk => ⟨.evt, [13]⟩
  | .seqUninitNr => ⟨.evt, [14]⟩
  | .seqInitOk => ⟨.evt, [15]⟩
  | .seqInitNr => ⟨.evt, [16]⟩
  | .seqActive => ⟨.evt, [17]⟩
  | .closeDone => ⟨.evt, [18]⟩
  | .txAbort => ⟨.evt, [19]⟩
  | .tSmExpire => ⟨.evt, [20]⟩
  | .tTxExpire => ⟨.evt, [21]⟩
  | .tOpenExpire => ⟨.evt, [22]⟩
  | .tick => ⟨.evt, [23]⟩
  | .hwReset => ⟨.evt, [24]⟩

/-! ### Words of the opcode table -/

/-- Byte `i` of a table word: bit 0 of the word is bit 0 of byte 0. -/
def wordByte (w i : Nat) : Byte := BitVec.ofNat 8 (w / 256 ^ i)

/-- A header word of the table, with as many zero payload bytes as it declares. -/
def headerMessage (w : Nat) : Message :=
  ⟨.h5hdr, [wordByte w 0, wordByte w 1, wordByte w 2, wordByte w 3]
    ++ List.replicate (headerLength (wordByte w 1) (wordByte w 2)).toNat 0⟩

/-- The message a table word of 16 bits or fewer stands for: a SLIP token where one of its bytes is ESC, a host command for the
values 1 to 3 of one byte, a SLIP token otherwise, a header where two bytes are no token. The table gives no port, and equal
words on two ports cannot be told apart (log 13). -/
def shortMessage (nbits w : Nat) : Message :=
  if nbits ≤ 8 then
    if w = 1 ∨ w = 2 ∨ w = 3 then ⟨.hc, [wordByte w 0]⟩ else ⟨.slip, [wordByte w 0]⟩
  else if wordByte w 0 = Cfg.default.esc then ⟨.slip, [wordByte w 0, wordByte w 1]⟩
  else if wordByte w 1 = Cfg.default.esc ∧ wordByte w 0 ≠ Cfg.default.escDelim ∧ wordByte w 0 ≠ Cfg.default.escEsc then
    ⟨.slip, [wordByte w 1, wordByte w 0]⟩
  else headerMessage w

/-- The message that a word of the opcode table stands for. -/
def tableMessage (nbits w : Nat) : Message :=
  if nbits ≤ 16 then shortMessage nbits w else headerMessage w

/-- The operation the decoder reads from a word of the opcode table, whose bytes are the default parameters (R113). -/
def decodeTableWord (nbits w : Nat) : Option Instr :=
  match decode Cfg.default (tableMessage nbits w) with
  | .ok i => some i
  | .error _ => none

end Sys2Proof
end

