-- ==== Sys2Proof/Machine/State.lean ====
section
/-! DEFINITION. The state of the block as plain data, the reasons a step can stop, and the state after hardware reset. -/

namespace Sys2Proof.Machine

/-- The nine flags of EXIT, in the order of their bits (R31 to R39). -/
structure ExitFlags where
  /-- EXIT[0] x_opened, relevant in START (R32). -/
  opened : Bool
  /-- EXIT[1] x_reset_sent, relevant in RESET (R33). -/
  resetSent : Bool
  /-- EXIT[2] x_reset_wait_done, relevant in RESET (R34). -/
  resetWaitDone : Bool
  /-- EXIT[3] x_peer_responded, relevant in UNINITIALIZED and INITIALIZED (R35). -/
  peerResponded : Bool
  /-- EXIT[4] x_retry_exhausted, relevant in UNINITIALIZED and INITIALIZED (R36). -/
  retryExhausted : Bool
  /-- EXIT[5] x_sync_received, relevant in ACTIVE (R37). -/
  syncReceived : Bool
  /-- EXIT[6] x_sync_error, relevant in ACTIVE (R38). -/
  syncError : Bool
  /-- EXIT[7] x_io_error, sticky (R39). -/
  ioError : Bool
  /-- EXIT[8] x_close, sticky (R39). -/
  close : Bool
deriving DecidableEq, Repr

/-- A timer, the pair `(armed, rem)` (R44). -/
structure Timer where
  armed : Bool
  rem : BitVec 16
deriving DecidableEq, Repr

/-- The three timers (R44). -/
inductive TimerId where
  /-- `t_sm` (R46). -/
  | sm
  /-- `t_tx` (R47). -/
  | tx
  /-- `t_open` (R48). -/
  | opn
deriving DecidableEq, Repr

/-- A host command as named in a result (R21 (2)). -/
inductive HostOp where
  | opn
  | close
  | send
deriving DecidableEq, Repr

/-- A request on port TQ (R21 (4), R111). -/
inductive TRequest where
  | tOpen
  | tClose
  | tSend (f : Bytes)
deriving DecidableEq, Repr

/-- The content of a LOG indication, which the spec leaves unspecified (R110, U22; log 15). -/
inductive LogLine where
  /-- The line of a decode error, with the new value of `err_count` (R30, R139). -/
  | decodeError (e : ResultCode) (count : BitVec 32)
  /-- A log line of the transport (R251). -/
  | transport (sev : Byte) (m : Bytes)
deriving DecidableEq, Repr

/-- An indication on port UP (R21 (3), R110). -/
inductive Indication where
  | data (p : Bytes)
  | status (st : ConnState) (c : Cause)
  | log (l : LogLine)
deriving DecidableEq, Repr

/-- A result on a function port (R21). SEQ.INC has no port of its own; its result is recorded here too (log 24). -/
inductive FnResult where
  /-- FE: the frame. -/
  | frame (f : Bytes)
  /-- FD: the payload, or `MalformedFrame`. -/
  | unframed (r : Except ResultCode Bytes)
  /-- PE: the packet, or `InvalidLength`. -/
  | packet (r : Except ResultCode Bytes)
  /-- PD: the record, or an error. -/
  | record (r : Except ResultCode Packet)
  /-- SEQ.INC. -/
  | number (n : BitVec 3)
deriving DecidableEq, Repr

/-- A message the block has sent, on HR, UP, TQ (with the answer it got) or a function port (R21). -/
inductive OutMsg where
  | hr (op : HostOp) (r : ResultCode)
  | up (i : Indication)
  | tq (r : TRequest) (a : Answer)
  | fn (r : FnResult)
deriving DecidableEq, Repr

/-- Why the machine stops with a fault. -/
inductive Fault where
  /-- Raised by `step` alone, when the parameters break a constraint of R293: the spec says nothing then (U31, "stuck").
  Safe: the model stops where the hardware goes on in some unspecified way (log 4). -/
  | invalidConfiguration
deriving DecidableEq, Repr

/-- Why the machine refuses to go on. -/
inductive Refusal where
  /-- Raised by an arm of `exec` for an operation without a meaning: none is left. Safe. -/
  | notModelled (mnemonic : String)
  /-- Raised by `step` when the next message of the agenda is no message of its port, for the reason named. Safe (log 22). -/
  | notAMessage (e : DecodeError)
deriving DecidableEq, Repr

/-- The state of the block (R20 to R50), its ports, and what the environment has still to do. -/
structure State where
  /-- The configuration record `Cfg`, constant (R13, R22; log 3). -/
  cfg : Cfg
  /-- `state` (R23). -/
  state : ConnState
  /-- `link_open` (R25). -/
  linkOpen : Bool
  /-- `seq_num` (R26). -/
  seqNum : BitVec 3
  /-- `ack_num` (R27). -/
  ackNum : BitVec 3
  /-- `retry_cnt` (R28). -/
  retryCnt : BitVec 8
  /-- `tx_retry_cnt` (R29). -/
  txRetryCnt : BitVec 8
  /-- `err_count` (R30). -/
  errCount : BitVec 32
  /-- `EXIT` (R31). -/
  exit : ExitFlags
  /-- `open_pending` (R40). -/
  openPending : Bool
  /-- `close_pending` (R40). -/
  closePending : Bool
  /-- `tx_busy` (R41). -/
  txBusy : Bool
  /-- `tx_frame` (R41). -/
  txFrame : Bytes
  /-- `rx_sync` (R42). -/
  rxSync : Bool
  /-- `rx_buf` (R42). -/
  rxBuf : Bytes
  /-- `rx_ovf` (R42). -/
  rxOvf : Bool
  /-- `t_sm` (R46). -/
  tSm : Timer
  /-- `t_tx` (R47). -/
  tTx : Timer
  /-- `t_open` (R48). -/
  tOpen : Timer
  /-- `FLT[0]`, `flt_ack_no_num` (R50). -/
  flt : Bool
  /-- The inbound stream: bytes indicated and not yet consumed (R61). -/
  inbound : Bytes
  /-- SEND commands stalled on port HC, oldest first (R213; log 9). -/
  hcWait : List Bytes
  /-- The messages sent on the output ports, oldest first (R21; log 8). -/
  out : List OutMsg
  /-- The answers the transport gives to the next requests (R22; log 5). -/
  answers : List Answer
  /-- What the environment presents and fires next (R16, R71; log 1). -/
  agenda : List Message
  /-- The counter of free values (log 6). -/
  freeCount : Nat
deriving DecidableEq, Repr

/-- EXIT with every flag 0. -/
def ExitFlags.zero : ExitFlags := ⟨false, false, false, false, false, false, false, false, false⟩

/-- The state after hardware reset (R51, R281). `tx_frame` and every `rem` are unspecified there: DESIGN CHOICE (log 7). -/
def State.reset : State where
  cfg := Cfg.default
  state := .closed
  linkOpen := false
  seqNum := 0
  ackNum := 0
  retryCnt := 0
  txRetryCnt := 0
  errCount := 0
  exit := ExitFlags.zero
  openPending := false
  closePending := false
  txBusy := false
  txFrame := []
  rxSync := false
  rxBuf := []
  rxOvf := false
  tSm := ⟨false, 0⟩
  tTx := ⟨false, 0⟩
  tOpen := ⟨false, 0⟩
  flt := false
  inbound := []
  hcWait := []
  out := []
  answers := []
  agenda := []
  freeCount := 0

end Sys2Proof.Machine
end

