-- ==== Sys2Proof/Machine/Flags.lean ====
section
/-! DEFINITION. The exit flags (R31 to R39): their 9-bit view, their clearing, their priority (R177), and the guards of the
steps that are tested on flags and states alone; the faulted states (R50). -/

namespace Sys2Proof.Machine

/-- The 9-bit register EXIT (R31): bit 0 is `x_opened`, bit 8 is `x_close`. -/
def ExitFlags.toBits (e : ExitFlags) : BitVec 9 :=
  BitVec.ofBool e.close ++ BitVec.ofBool e.ioError ++ BitVec.ofBool e.syncError ++ BitVec.ofBool e.syncReceived
    ++ BitVec.ofBool e.retryExhausted ++ BitVec.ofBool e.peerResponded ++ BitVec.ofBool e.resetWaitDone
    ++ BitVec.ofBool e.resetSent ++ BitVec.ofBool e.opened

/-- `EXIT[6:0] <- 0`: the sticky two are kept (R31, R176 line 2). -/
def ExitFlags.clearPerState (e : ExitFlags) : ExitFlags := { ExitFlags.zero with ioError := e.ioError, close := e.close }

/-- `x_io_error = 1` or `x_close = 1`: what every other exit yields to (R177). -/
def ExitFlags.abort (e : ExitFlags) : Bool := e.ioError || e.close

/-- FAILED, NO_RESPONSE and CLOSED are terminal (R23, R201). -/
def isTerminal (st : ConnState) : Bool :=
  match st with
  | .failed => true
  | .noResponse => true
  | .closed => true
  | .start => false
  | .reset => false
  | .uninitialized => false
  | .initialized => false
  | .active => false

/-- The guard of SEQ.ABORT (R178). -/
def State.canSeqAbort (s : State) : Bool := s.linkOpen && !isTerminal s.state && s.exit.abort

/-- The guard of SEQ.START (R179). -/
def State.canSeqStart (s : State) : Bool := s.state == .start && !s.exit.abort && s.exit.opened

/-- The guard of SEQ.RESET (R181). -/
def State.canSeqReset (s : State) : Bool :=
  s.state == .reset && !s.exit.abort && s.exit.resetSent && s.exit.resetWaitDone

/-- The guard of SEQ.UNINIT.OK (R187). -/
def State.canSeqUninitOk (s : State) : Bool := s.state == .uninitialized && !s.exit.abort && s.exit.peerResponded

/-- The guard of SEQ.UNINIT.NR (R188). -/
def State.canSeqUninitNr (s : State) : Bool :=
  s.state == .uninitialized && !s.exit.abort && !s.exit.peerResponded && s.exit.retryExhausted

/-- The guard of SEQ.INIT.OK (R193). -/
def State.canSeqInitOk (s : State) : Bool := s.state == .initialized && !s.exit.abort && s.exit.peerResponded

/-- The guard of SEQ.INIT.NR (R194). -/
def State.canSeqInitNr (s : State) : Bool :=
  s.state == .initialized && !s.exit.abort && !s.exit.peerResponded && s.exit.retryExhausted

/-- The guard of SEQ.ACTIVE (R228). -/
def State.canSeqActive (s : State) : Bool :=
  s.state == .active && !s.exit.abort && (s.exit.syncReceived || s.exit.syncError)

/-- The guard of CLOSE.DONE (R174). -/
def State.canCloseDone (s : State) : Bool := s.closePending && isTerminal s.state && !s.txBusy

/-- The guard of TX.ABORT (R218). -/
def State.canTxAbort (s : State) : Bool := s.txBusy && s.exit.abort

/-- `FLT != 0`: a faulted state (R50). The link controller goes on in it (R247). -/
def State.faulted (s : State) : Bool := s.flt

/-- The receive path takes bytes and packets: the link is open and the state is not terminal (R138 line 1). -/
def State.receiving (s : State) : Bool := s.linkOpen && !isTerminal s.state

end Sys2Proof.Machine
end

