-- ==== Sys2Proof/Machine/Operands.lean ====
section
/-! DEFINITION. The operands of the steps: the timer an operation names, expiry (R44), the chunk of the reassembler (R138), and
the codes of the messages on UP and TQ (R110, R111). -/

namespace Sys2Proof.Machine

/-- The timer of the given name. -/
def State.timer (t : TimerId) (s : State) : Timer :=
  match t with
  | .sm => s.tSm
  | .tx => s.tTx
  | .opn => s.tOpen

/-- Replace the timer of the given name. -/
def State.setTimer (t : TimerId) (v : Timer) (s : State) : State :=
  match t with
  | .sm => { s with tSm := v }
  | .tx => { s with tTx := v }
  | .opn => { s with tOpen := v }

/-- A timer with `armed = 1` and `rem = 0` is expired (R44). -/
def Timer.expired (t : Timer) : Bool := t.armed && t.rem == 0

/-- A timer after one tick: counted down if it is armed (R44). -/
def Timer.tick (t : Timer) : Timer := if t.armed then { t with rem := t.rem - 1 } else t

/-- The guard of TICK: no timer is expired (R44). -/
def State.canTick (s : State) : Bool := !s.tSm.expired && !s.tTx.expired && !s.tOpen.expired

/-- The chunk that a closing delimiter hands to RX.FRAME (R138 line 2). -/
def State.chunk (s : State) : Bytes := [s.cfg.delim] ++ s.rxBuf ++ [s.cfg.delim]

/-- A closing delimiter finds something to hand over: the reassembler is synchronised and the chunk is neither empty nor whole
(R138 line 2). -/
def State.chunkReady (s : State) : Bool := s.rxSync && (!s.rxBuf.isEmpty || s.rxOvf)

/-- `ind[1:0]` of port UP (R110). -/
def indicationCode : Indication → BitVec 2
  | .data _ => 1
  | .status _ _ => 2
  | .log _ => 3

/-- `req[1:0]` of port TQ (R111). -/
def requestCode : TRequest → BitVec 2
  | .tOpen => 1
  | .tClose => 2
  | .tSend _ => 3

/-- A retry counter loaded with RETRY_BUDGET - 1 (R28, R29). -/
def fullBudget (c : Cfg) : BitVec 8 := BitVec.ofNat 8 (c.retryBudget - 1)

end Sys2Proof.Machine
end

