-- ==== Sys2Proof/Machine/Ops.lean ====
section
/-! DEFINITION. The primitives of R15 and the shared procedures: output ports, transport requests and `emit` (R68), timers (R44),
decode-error counting (R139), `enter` (R176: the one forced transition, R253, R254), and fetching from the agenda. -/

namespace Sys2Proof.Machine

/-! ### Output ports -/

/-- Append a message to the record of the output ports (R21). -/
def State.put (o : OutMsg) (s : State) : State := { s with out := s.out ++ [o] }

/-- `complete(op, r)` (R15). -/
def State.complete (op : HostOp) (r : ResultCode) (s : State) : State := s.put (.hr op r)

/-- `deliver(p)` (R15, R76): UP takes everything at once. -/
def State.deliver (p : Bytes) (s : State) : State := s.put (.up (.data p))

/-- `status(S, c)` (R15). -/
def State.status (st : ConnState) (c : Cause) (s : State) : State := s.put (.up (.status st c))

/-- `log(...)` (R15). -/
def State.logLine (l : LogLine) (s : State) : State := s.put (.up (.log l))

/-- A result on a function port (R21). -/
def State.fnOut (r : FnResult) (s : State) : State := s.put (.fn r)

/-! ### Transport requests -/

/-- The answer the transport gives to the next request: the environment's, else a free value (R22, R262 (d); log 5). -/
def State.nextAnswer (s : State) : Answer :=
  match s.answers with
  | [] => Config.freeAnswer s.freeCount
  | a :: _ => a

/-- The counter of free values after the next request (log 5). -/
def State.countAfterRequest (s : State) : Nat :=
  match s.answers with
  | [] => s.freeCount + 1
  | _ :: _ => s.freeCount

/-- Issue a request on TQ and take its answer (R21 (4), R68). -/
def State.request (r : TRequest) (s : State) : State :=
  { s with
    out := s.out ++ [.tq r s.nextAnswer]
    answers := s.answers.tail
    freeCount := s.countAfterRequest }

/-- `x_io_error <- 1` if the answer is ERR (R68 (3), R171 line 3). -/
def State.noteAnswer (a : Answer) (s : State) : State :=
  { s with exit := { s.exit with ioError := s.exit.ioError || a == .err } }

/-- `emit(f)` (R68). -/
def State.emit (f : Bytes) (s : State) : State := (s.request (.tSend f)).noteAnswer s.nextAnswer

/-- `emit` where its precondition `link_open = 1` holds (R68); nothing otherwise. -/
def State.emitIfOpen (f : Bytes) (s : State) : State := if s.linkOpen then s.emit f else s

/-! ### Timers -/

/-- `arm(t, d)` (R44). -/
def State.arm (t : TimerId) (d : Nat) (s : State) : State := s.setTimer t ⟨true, BitVec.ofNat 16 (ticks s.cfg d)⟩

/-- `disarm(t)`: `rem` is then unspecified, a free value (R44; log 6). -/
def State.disarm (t : TimerId) (s : State) : State :=
  { s.setTimer t ⟨false, Config.freeRem s.freeCount⟩ with freeCount := s.freeCount + 1 }

/-! ### The transmit buffer -/

/-- `tx_busy <- 0`. The content of `tx_frame` is then any value (R41, U21): a free value, the model's choice (log 6). -/
def State.releaseTx (s : State) : State :=
  { s with txBusy := false, txFrame := Config.freeFrame s.freeCount, freeCount := s.freeCount + 1 }

/-! ### Receive side -/

/-- `rx_sync <- 0; rx_buf <- []; rx_ovf <- 0`. -/
def State.clearRx (s : State) : State := { s with rxSync := false, rxBuf := [], rxOvf := false }

/-- A decode error: counted modulo 2^32 and logged (R139, R242). -/
def State.countError (e : ResultCode) (s : State) : State :=
  { s with errCount := s.errCount + 1 }.logLine (.decodeError e (s.errCount + 1))

/-! ### Entering a state -/

/-- The entry action of a state (R176 line 5). -/
def State.entryAction (st : ConnState) (s : State) : State :=
  match st with
  | .reset =>
    let s1 := s.emit (resetFrameOf s.cfg)
    { s1 with exit := { s1.exit with resetSent := true } }.arm .sm s.cfg.resetSettle
  | .uninitialized =>
    ({ s with retryCnt := fullBudget s.cfg }.emit (syncFrameOf s.cfg)).arm .sm s.cfg.retxInterval
  | .initialized =>
    ({ s with retryCnt := fullBudget s.cfg }.emit (configFrameOf s.cfg)).arm .sm s.cfg.retxInterval
  | .active => { s with seqNum := 0, ackNum := 0 }
  | .failed => s
  | .noResponse => s
  | .closed => s
  | .start => s

/-- The result of a pending OPEN when a state is entered, if it has one (R172, R176 line 6). -/
def openResult (st : ConnState) : Option ResultCode :=
  match st with
  | .active => some .ok
  | .failed => some .transportError
  | .noResponse => some .noResponse
  | .closed => some .closed
  | .start => none
  | .reset => none
  | .uninitialized => none
  | .initialized => none

/-- Complete a pending OPEN (R176 line 6). -/
def State.completeOpen (st : ConnState) (s : State) : State :=
  match openResult st with
  | some r => if s.openPending then ({ s with openPending := false }.disarm .opn).complete .opn r else s
  | none => s

/-- `enter(S, c)` (R176), lines 1 to 6 in order. It saves nothing and returns nowhere (R253, R256). -/
def State.enter (st : ConnState) (c : Cause) (s : State) : State :=
  let s1 := { s with state := st, exit := s.exit.clearPerState }
  (((s1.disarm .sm).status st c).entryAction st).completeOpen st

/-! ### Outcomes -/

/-- A step whose guard does not hold does not fire: the state stays as it is (R16; log 2). -/
def State.guarded (g : Bool) (s t : State) : Host.Outcome State Fault Refusal := .next (if g then t else s)

/-! ### Fetching -/

/-- The next message of the agenda and the state without it; none when the environment presents nothing (log 1). -/
def State.fetch (s : State) : Option (Message × State) :=
  match s.agenda with
  | [] => none
  | m :: rest => some (m, { s with agenda := rest })

/-- Place a message so that the next step fetches it. -/
def State.withMessage (m : Message) (s : State) : State := { s with agenda := m :: s.agenda }

/-- The parameters are such that the rules hold (R293, U31; log 4). -/
def State.configured (s : State) : Bool := cfgValid s.cfg

end Sys2Proof.Machine
end

