-- ==== Sys2Proof/Machine/Receive.lean ====
section
/-! DEFINITION. The receive path: the handlers (R197 to R200, R220, R224, R226), the dispatch table (R140) by packet kind,
RX.FRAME (R139), RX.BYTE (R138) and T_DATA (R136). -/

namespace Sys2Proof.Machine

/-! ### Handlers -/

/-- `x_peer_responded <- 1` (R197, R199). -/
def State.notePeerResponded (s : State) : State := { s with exit := { s.exit with peerResponded := true } }

/-- The effect of RX.SYNC_RSP (R197). -/
def State.onSyncRsp (s : State) : State := s.notePeerResponded

/-- The effect of RX.SYNC (R198). -/
def State.onSync (s : State) : State := s.emit (syncRspFrameOf s.cfg)

/-- The effect of RX.SYNC.ACTIVE (R226). -/
def State.onSyncActive (s : State) : State := { s with exit := { s.exit with syncReceived := true } }

/-- The effect of RX.CONFIG_RSP (R199). -/
def State.onConfigRsp (s : State) : State := s.notePeerResponded

/-- The effect of RX.CONFIG (R200). -/
def State.onConfig (s : State) : State := s.emit (configRspFrameOf s.cfg)

/-- The end of the SEND in flight: `tx_busy <- 0; disarm(t_tx); complete(SEND, r)` (R216, R218, R220). `tx_frame` is then a free
value, the model's choice (U21; log 6). -/
def State.endSend (r : ResultCode) (s : State) : State := (s.releaseTx.disarm .tx).complete .send r

/-- The effect of RX.ACK(d), which reads `d.ack` alone (R220). -/
def State.onAck (d : Packet) (s : State) : State :=
  if d.ack = seqIncr s.seqNum then
    let s1 := { s with seqNum := seqIncr s.seqNum }
    if s.txBusy then s1.endSend .ok else s1
  else if d.ack = s.seqNum then s
  else { s with exit := { s.exit with syncError := true } }

/-- The effect of RX.DATA(d) (R224). -/
def State.onData (d : Packet) (s : State) : State :=
  if d.seq = s.ackNum then
    let a := seqIncr s.ackNum
    ({ s with ackNum := a }.emit (ackFrameOf s.cfg a)).deliver d.payload
  else s.emit (ackFrameOf s.cfg s.ackNum)

/-! ### Dispatch: one row of the table of R140 for each kind; a terminal state has no column, nothing happens there (log 19) -/

/-- Row K_SYNC (R140). -/
def State.dispatchSync (s : State) : State :=
  match s.state with
  | .uninitialized => s.onSync
  | .initialized => s.onSync
  | .active => s.onSyncActive
  | .start => s
  | .reset => s
  | .failed => s
  | .noResponse => s
  | .closed => s

/-- Row K_SYNC_RSP (R140). -/
def State.dispatchSyncRsp (s : State) : State :=
  match s.state with
  | .uninitialized => s.onSyncRsp
  | .start => s
  | .reset => s
  | .initialized => s
  | .active => s
  | .failed => s
  | .noResponse => s
  | .closed => s

/-- Row K_CONFIG (R140). -/
def State.dispatchConfig (s : State) : State :=
  match s.state with
  | .initialized => s.onConfig
  | .active => s.onConfig
  | .start => s
  | .reset => s
  | .uninitialized => s
  | .failed => s
  | .noResponse => s
  | .closed => s

/-- Row K_CONFIG_RSP (R140). -/
def State.dispatchConfigRsp (s : State) : State :=
  match s.state with
  | .initialized => s.onConfigRsp
  | .start => s
  | .reset => s
  | .uninitialized => s
  | .active => s
  | .failed => s
  | .noResponse => s
  | .closed => s

/-- Row K_ACK (R140). -/
def State.dispatchAck (d : Packet) (s : State) : State :=
  match s.state with
  | .active => s.onAck d
  | .start => s
  | .reset => s
  | .uninitialized => s
  | .initialized => s
  | .failed => s
  | .noResponse => s
  | .closed => s

/-- Row K_DATA (R140). -/
def State.dispatchData (d : Packet) (s : State) : State :=
  match s.state with
  | .active => s.onData d
  | .start => s
  | .reset => s
  | .uninitialized => s
  | .initialized => s
  | .failed => s
  | .noResponse => s
  | .closed => s

/-- Row K_DATA_UNREL: drop in every state (R140, R227). -/
def State.dispatchDataUnrel (s : State) : State := s

/-- Row K_RESET: drop in every state (R140, R227, R296). -/
def State.dispatchReset (s : State) : State := s

/-- Row K_OTHER: drop in every state, not counted (R106 (c), R140). -/
def State.dispatchOther (s : State) : State := s

/-- `dispatch(k, d)` (R140). -/
def State.dispatch (k : PacketKind) (d : Packet) (s : State) : State :=
  match k with
  | .ack => s.dispatchAck d
  | .data => s.dispatchData d
  | .dataUnrel => s.dispatchDataUnrel
  | .reset => s.dispatchReset
  | .sync => s.dispatchSync
  | .syncRsp => s.dispatchSyncRsp
  | .config => s.dispatchConfig
  | .configRsp => s.dispatchConfigRsp
  | .other => s.dispatchOther

/-! ### RX.FRAME, RX.BYTE, T_DATA -/

/-- `RX.FRAME(chunk, ovf)` (R139), lines 1 to 4. -/
def State.rxFrame (chunk : Bytes) (ovf : Bool) (s : State) : State :=
  if ovf then s.countError .malformedFrame
  else
    match decodeFrame s.cfg chunk with
    | .error _ => s.countError .malformedFrame
    | .ok r =>
      match decodePkt s.cfg r with
      | .error e => s.countError e
      | .ok d => s.dispatch (kind s.cfg d) d

/-- Line 2 of R138: a delimiter closes the chunk before it and opens the next. -/
def State.rxDelim (s : State) : State :=
  let s1 := if s.chunkReady then { s with rxBuf := [], rxOvf := false }.rxFrame s.chunk s.rxOvf else s
  { s1 with rxSync := true }

/-- Line 3 of R138: a byte of a chunk. -/
def State.rxChunkByte (b : Byte) (s : State) : State :=
  if !s.rxSync then s
  else if s.rxBuf.length = s.cfg.rxBufMax then { s with rxOvf := true }
  else { s with rxBuf := s.rxBuf ++ [b] }

/-- What RX.BYTE does with the byte it has taken from the inbound stream (R138). -/
def State.consume (b : Byte) (s : State) : State :=
  if !s.receiving then s.clearRx
  else if b = s.cfg.delim then s.rxDelim
  else s.rxChunkByte b

/-- RX.BYTE for every byte of the inbound stream `bs`, in order (R72, R112). -/
def State.consumeAll : Bytes → State → State
  | [], s => s
  | b :: rest, s => State.consumeAll rest ({ s with inbound := rest }.consume b)

/-- T_DATA(bs): appended to the inbound stream and nothing else (R136). -/
def State.indicate (bs : Bytes) (s : State) : State := { s with inbound := s.inbound ++ bs }

/-- An `RX` line of R112: one T_DATA and the RX.BYTE steps that consume the whole inbound stream. -/
def State.receive (bs : Bytes) (s : State) : State := (s.indicate bs).consumeAll (s.inbound ++ bs)

/-! ### Meanings of the receive steps -/

/-- RX.BYTE (R138). Guard: the inbound stream is not empty. -/
def execRxByte (s : State) : Host.Outcome State Fault Refusal :=
  match s.inbound with
  | [] => .next s
  | b :: rest => .next ({ s with inbound := rest }.consume b)

/-- RX.FRAME (R139), where the receive path takes frames at all (R138 line 1). -/
def execRxFrame (chunk : Bytes) (ovf : Bool) (s : State) : Host.Outcome State Fault Refusal :=
  s.guarded s.receiving (s.rxFrame chunk ovf)

/-- RX.SYNC_RSP (R197). -/
def execRxSyncRsp (s : State) : Host.Outcome State Fault Refusal :=
  s.guarded (s.state == .uninitialized) s.onSyncRsp

/-- RX.SYNC (R198). -/
def execRxSync (s : State) : Host.Outcome State Fault Refusal :=
  s.guarded (s.state == .uninitialized || s.state == .initialized) s.onSync

/-- RX.SYNC.ACTIVE (R226). -/
def execRxSyncActive (s : State) : Host.Outcome State Fault Refusal :=
  s.guarded (s.state == .active) s.onSyncActive

/-- RX.CONFIG_RSP (R199). -/
def execRxConfigRsp (s : State) : Host.Outcome State Fault Refusal :=
  s.guarded (s.state == .initialized) s.onConfigRsp

/-- RX.CONFIG (R200). -/
def execRxConfig (s : State) : Host.Outcome State Fault Refusal :=
  s.guarded (s.state == .initialized || s.state == .active) s.onConfig

/-- RX.ACK(d) (R220). Guard: kind K_ACK and state ACTIVE. -/
def execRxAck (d : Packet) (s : State) : Host.Outcome State Fault Refusal :=
  s.guarded (kind s.cfg d == .ack && s.state == .active) (s.onAck d)

/-- RX.DATA(d) (R224). Guard: kind K_DATA and state ACTIVE. -/
def execRxData (d : Packet) (s : State) : Host.Outcome State Fault Refusal :=
  s.guarded (kind s.cfg d == .data && s.state == .active) (s.onData d)

end Sys2Proof.Machine
end

