-- ==== Sys2Proof/Machine/Commands.lean ====
section
/-! DEFINITION. The host commands OPEN, CLOSE, SEND (format HC; R171, R173, R213) and the port HC with a stalled SEND. -/

namespace Sys2Proof.Machine

/-- Line 2 of R171: the "after OPEN" column of R51. `tx_frame` is unspecified there, a free value (log 6). -/
def State.loadOpen (s : State) : State :=
  let s1 := { s with
    state := .start
    linkOpen := true
    seqNum := 0
    ackNum := 0
    retryCnt := 0
    txRetryCnt := 0
    errCount := 0
    exit := ExitFlags.zero
    txBusy := false
    txFrame := Config.freeFrame s.freeCount
    closePending := false
    rxSync := false
    rxBuf := []
    rxOvf := false
    inbound := []
    openPending := true
    freeCount := s.freeCount + 1 }
  ((s1.disarm .sm).disarm .tx).arm .opn s.cfg.openTimeout

/-- Line 3 of R171: T_OPEN and its answer. -/
def State.openTransport (s : State) : State :=
  let s1 := (s.request .tOpen).noteAnswer s.nextAnswer
  { s1 with exit := { s1.exit with opened := s1.exit.opened || s.nextAnswer == .ok } }

/-- OPEN (R171). -/
def execHostOpen (s : State) : Host.Outcome State Fault Refusal :=
  .next (if s.linkOpen then s.complete .opn .invalidState else s.loadOpen.openTransport)

/-- CLOSE (R173). -/
def execHostClose (s : State) : Host.Outcome State Fault Refusal :=
  .next (if !s.linkOpen || s.closePending then s.complete .close .invalidState
    else { s with exit := { s.exit with close := true }, closePending := true })

/-- Lines 3 to 5 of R213: build the frame, start the SEND, transmit for the first time. -/
def State.startSend (p : Bytes) (s : State) : State :=
  let f := dataFrameOf s.cfg p s.seqNum s.ackNum
  ({ s with txFrame := f, txBusy := true, txRetryCnt := fullBudget s.cfg }.emit f).arm .tx s.cfg.retxInterval

/-- The step SEND, with its guard `tx_busy = 0` granted (R213). -/
def State.acceptSend (p : Bytes) (s : State) : State :=
  if s.state ≠ .active then s.complete .send .invalidState
  else if Config.maxPayload < p.length then s.complete .send .invalidLength
  else s.startSend p

/-- SEND(p) presented on HC: accepted, or stalled on the port while `tx_busy = 1` (R74, R213, R286). -/
def execHostSend (p : Bytes) (s : State) : Host.Outcome State Fault Refusal :=
  .next (if s.txBusy then { s with hcWait := s.hcWait ++ [p] } else s.acceptSend p)

/-- No new command on HC: the port goes on presenting its stalled SEND, which is accepted once `tx_busy = 0` (R108, R213,
R286; log 9). -/
def State.presentStalled (s : State) : State :=
  if s.txBusy then s
  else
    match s.hcWait with
    | [] => s
    | p :: rest => { s with hcWait := rest }.acceptSend p

/-- A message that carries no operation: on HC "no command", on TI "no indication", anything else is refused by name. -/
def State.noOperation (e : DecodeError) (s : State) : Host.Outcome State Fault Refusal :=
  match e with
  | .noCommand => .next s.presentStalled
  | .noIndication => .next s
  | .empty => .refused (.notAMessage .empty)
  | .trailingBytes => .refused (.notAMessage .trailingBytes)
  | .moreThanOneToken => .refused (.notAMessage .moreThanOneToken)
  | .shortHeader => .refused (.notAMessage .shortHeader)
  | .payloadLengthMismatch => .refused (.notAMessage .payloadLengthMismatch)
  | .notATemplate => .refused (.notAMessage .notATemplate)
  | .unknownFunction => .refused (.notAMessage .unknownFunction)
  | .badOperand => .refused (.notAMessage .badOperand)
  | .bitsAbovePortCode => .refused (.notAMessage .bitsAbovePortCode)
  | .unknownEvent => .refused (.notAMessage .unknownEvent)

end Sys2Proof.Machine
end

