-- ==== Sys2Proof/Machine/Frames.lean ====
section
/-! DEFINITION. The transmitted templates (format TXFRAME): `emit` of the frame, under the precondition of R68 (R105). -/

namespace Sys2Proof.Machine

/-- RESET_FRAME (R105, R180). -/
def execResetFrame (s : State) : Host.Outcome State Fault Refusal := .next (s.emitIfOpen (resetFrameOf s.cfg))

/-- SYNC_FRAME (R105, R183). -/
def execSyncFrame (s : State) : Host.Outcome State Fault Refusal := .next (s.emitIfOpen (syncFrameOf s.cfg))

/-- SYNC_RSP_FRAME (R105, R198). -/
def execSyncRspFrame (s : State) : Host.Outcome State Fault Refusal := .next (s.emitIfOpen (syncRspFrameOf s.cfg))

/-- CONFIG_FRAME (R105, R190). -/
def execConfigFrame (s : State) : Host.Outcome State Fault Refusal := .next (s.emitIfOpen (configFrameOf s.cfg))

/-- CONFIG_RSP_FRAME (R105, R200). -/
def execConfigRspFrame (s : State) : Host.Outcome State Fault Refusal := .next (s.emitIfOpen (configRspFrameOf s.cfg))

/-- ACK_FRAME(a) (R105, R222). -/
def execAckFrame (a : BitVec 3) (s : State) : Host.Outcome State Fault Refusal := .next (s.emitIfOpen (ackFrameOf s.cfg a))

/-- DATA_FRAME(p, s, a) (R105, R214). A payload over 4095 bytes has no packet (R151), so nothing is emitted for it. -/
def execDataFrame (p : Bytes) (sq a : BitVec 3) (s : State) : Host.Outcome State Fault Refusal :=
  .next (if p.length ≤ Config.maxPayload then s.emitIfOpen (dataFrameOf s.cfg p sq a) else s)

end Sys2Proof.Machine
end

