-- ==== Sys2Proof/Machine/Functions.lean ====
section
/-! DEFINITION. The codec functions on their ports FE, FD, PE, PD, and SEQ.INC (format FN; R21, R131, R133, R150 to R155). -/

namespace Sys2Proof.Machine

/-- FRAME.ENCODE(p) on FE (R131). -/
def execFrameEncode (p : Bytes) (s : State) : Host.Outcome State Fault Refusal :=
  .next (s.fnOut (.frame (encodeFrame s.cfg p)))

/-- FRAME.DECODE(f) on FD (R133). -/
def execFrameDecode (f : Bytes) (s : State) : Host.Outcome State Fault Refusal :=
  .next (s.fnOut (.unframed (decodeFrame s.cfg f)))

/-- What PKT.ENCODE leaves: a packet, `InvalidLength`, or `FLT[0] <- 1` and no output (R151, R247). -/
def State.putEncoded (r : PktEncoded) (s : State) : State :=
  match r with
  | .packet k => s.fnOut (.packet (.ok k))
  | .invalidLength => s.fnOut (.packet (.error .invalidLength))
  | .ackWithoutNumber => { s with flt := true }

/-- PKT.ENCODE on PE (R150, R151). -/
def execPktEncode (p : Bytes) (seq ack : Byte) (reliable integrity : Bool) (type : BitVec 4) (s : State) :
    Host.Outcome State Fault Refusal :=
  .next (s.putEncoded (encodePkt s.cfg p seq ack reliable integrity type))

/-- PKT.DECODE(k) on PD (R152). -/
def execPktDecode (k : Bytes) (s : State) : Host.Outcome State Fault Refusal :=
  .next (s.fnOut (.record (decodePkt s.cfg k)))

/-- SEQ.INC(n) (R155; log 24). -/
def execSeqInc (n : BitVec 3) (s : State) : Host.Outcome State Fault Refusal := .next (s.fnOut (.number (seqIncr n)))

end Sys2Proof.Machine
end

