-- ==== Sys2Proof/Machine/Kinds.lean ====
section
/-! DEFINITION. The packet kinds (format H5HDR): a correctly decoded packet of the kind is dispatched (R104, R140). -/

namespace Sys2Proof.Machine

/-- K_ACK (R140, R220). -/
def execKAck (d : Packet) (s : State) : Host.Outcome State Fault Refusal := .next (s.dispatchAck d)

/-- K_DATA (R140, R224). -/
def execKData (d : Packet) (s : State) : Host.Outcome State Fault Refusal := .next (s.dispatchData d)

/-- K_DATA_UNREL (R140, R227): dropped. -/
def execKDataUnrel (_d : Packet) (s : State) : Host.Outcome State Fault Refusal := .next s.dispatchDataUnrel

/-- K_RESET (R140, R227): dropped, the payload is not examined (R104). -/
def execKReset (_d : Packet) (s : State) : Host.Outcome State Fault Refusal := .next s.dispatchReset

/-- K_SYNC (R140, R198, R226). -/
def execKSync (_d : Packet) (s : State) : Host.Outcome State Fault Refusal := .next s.dispatchSync

/-- K_SYNC_RSP (R140, R197). -/
def execKSyncRsp (_d : Packet) (s : State) : Host.Outcome State Fault Refusal := .next s.dispatchSyncRsp

/-- K_CONFIG (R140, R200): the configuration byte is not interpreted (R103). -/
def execKConfig (_d : Packet) (s : State) : Host.Outcome State Fault Refusal := .next s.dispatchConfig

/-- K_CONFIG_RSP (R140, R199): the configuration byte is not interpreted (R103). -/
def execKConfigRsp (_d : Packet) (s : State) : Host.Outcome State Fault Refusal := .next s.dispatchConfigRsp

/-- K_OTHER (R106 (c), R140): dropped, not counted. -/
def execKOther (_d : Packet) (s : State) : Host.Outcome State Fault Refusal := .next s.dispatchOther

end Sys2Proof.Machine
end

