-- ==== Sys2Proof/Machine/Sequencer.lean ====
section
/-! DEFINITION. The sequencer steps (agent SEQ): R174, R178, R179, R181, R187, R188, R193, R194, R228. -/

namespace Sys2Proof.Machine

/-- SEQ.ABORT (R178): I/O error before close. -/
def execSeqAbort (s : State) : Host.Outcome State Fault Refusal :=
  s.guarded s.canSeqAbort (if s.exit.ioError then s.enter .failed .ioError else s.enter .closed .close)

/-- SEQ.START (R179). -/
def execSeqStart (s : State) : Host.Outcome State Fault Refusal := s.guarded s.canSeqStart (s.enter .reset .opened)

/-- SEQ.RESET (R181). -/
def execSeqReset (s : State) : Host.Outcome State Fault Refusal :=
  s.guarded s.canSeqReset (s.enter .uninitialized .resetDone)

/-- SEQ.UNINIT.OK (R187). -/
def execSeqUninitOk (s : State) : Host.Outcome State Fault Refusal :=
  s.guarded s.canSeqUninitOk (s.enter .initialized .peerResponded)

/-- SEQ.UNINIT.NR (R188). -/
def execSeqUninitNr (s : State) : Host.Outcome State Fault Refusal :=
  s.guarded s.canSeqUninitNr (s.enter .noResponse .retryExhausted)

/-- SEQ.INIT.OK (R193). -/
def execSeqInitOk (s : State) : Host.Outcome State Fault Refusal :=
  s.guarded s.canSeqInitOk (s.enter .active .peerResponded)

/-- SEQ.INIT.NR (R194). -/
def execSeqInitNr (s : State) : Host.Outcome State Fault Refusal :=
  s.guarded s.canSeqInitNr (s.enter .noResponse .retryExhausted)

/-- SEQ.ACTIVE (R228): a SYNC before an acknowledgement mismatch. -/
def execSeqActive (s : State) : Host.Outcome State Fault Refusal :=
  s.guarded s.canSeqActive (if s.exit.syncReceived then s.enter .reset .peerResync else s.enter .reset .ackMismatch)

/-- The result of a CLOSE from the answer to T_CLOSE (R174 line 3). -/
def closeResult (a : Answer) : ResultCode :=
  match a with
  | .ok => .ok
  | .err => .transportError

/-- The effect of CLOSE.DONE (R174), lines 1 to 3. -/
def State.closeLink (s : State) : State :=
  let s1 := { s.request .tClose with linkOpen := false, closePending := false }
  ((((s1.disarm .sm).disarm .tx).disarm .opn).clearRx).complete .close (closeResult s.nextAnswer)

/-- CLOSE.DONE (R174). -/
def execCloseDone (s : State) : Host.Outcome State Fault Refusal := s.guarded s.canCloseDone s.closeLink

end Sys2Proof.Machine
end

