-- ==== Sys2Proof/Machine/Timers.lean ====
section
/-! DEFINITION. The transmit engine and the timer steps: TX.ABORT (R218), T_SM.EXPIRE (R195), T_TX.EXPIRE (R216), T_OPEN.EXPIRE
(R175), TICK (R44); and hardware reset (R281, R282). -/

namespace Sys2Proof.Machine

/-- TX.ABORT (R218). -/
def execTxAbort (s : State) : Host.Outcome State Fault Refusal :=
  s.guarded s.canTxAbort (if s.exit.ioError then s.endSend .transportError else s.endSend .closed)

/-- A handshake attempt when its wait ends: transmit `f` again, or note that the budget is spent (R186, R192, R195 line 2). -/
def State.retryHandshake (f : Bytes) (s : State) : State :=
  if s.exit.peerResponded || s.exit.abort then s
  else if s.retryCnt ≠ 0 then
    { s.emit f with retryCnt := s.retryCnt - 1 }.arm .sm s.cfg.retxInterval
  else { s with exit := { s.exit with retryExhausted := true } }

/-- Line 2 of R195. -/
def State.smExpired (s : State) : State :=
  match s.state with
  | .reset => { s with exit := { s.exit with resetWaitDone := true } }
  | .uninitialized => s.retryHandshake (syncFrameOf s.cfg)
  | .initialized => s.retryHandshake (configFrameOf s.cfg)
  | .start => s
  | .active => s
  | .failed => s
  | .noResponse => s
  | .closed => s

/-- T_SM.EXPIRE (R195). -/
def execTSmExpire (s : State) : Host.Outcome State Fault Refusal :=
  s.guarded s.tSm.expired (s.disarm .sm).smExpired

/-- Line 2 of R216. When the SEND ends, `tx_frame` is a free value, the model's choice (U21; log 6). -/
def State.txExpired (s : State) : State :=
  if s.txBusy && !s.exit.abort then
    if s.txRetryCnt ≠ 0 then
      { s.emit s.txFrame with txRetryCnt := s.txRetryCnt - 1 }.arm .tx s.cfg.retxInterval
    else s.releaseTx.complete .send .maxRetriesReached
  else s

/-- T_TX.EXPIRE (R216). -/
def execTTxExpire (s : State) : Host.Outcome State Fault Refusal :=
  s.guarded s.tTx.expired (s.disarm .tx).txExpired

/-- Line 2 of R175. -/
def State.openExpired (s : State) : State :=
  if s.openPending then { s with openPending := false }.complete .opn .timeout else s

/-- T_OPEN.EXPIRE (R175). -/
def execTOpenExpire (s : State) : Host.Outcome State Fault Refusal :=
  s.guarded s.tOpen.expired (s.disarm .opn).openExpired

/-- TICK (R44): every armed timer counts down; time waits for an expired one. -/
def execTick (s : State) : Host.Outcome State Fault Refusal :=
  s.guarded s.canTick { s with tSm := s.tSm.tick, tTx := s.tTx.tick, tOpen := s.tOpen.tick }

/-- Hardware reset (R281, R282): every register to the "after reset" column of R51, the inbound stream empty, pending host
commands lost; no request is issued and no command completed. `tx_frame` and every `rem` are unspecified, free values (log 6).
The parameters, the record of the ports and what the environment still does are not the block's to reset (log 20). -/
def State.hardwareReset (s : State) : State :=
  { State.reset with
    cfg := s.cfg
    txFrame := Config.freeFrame s.freeCount
    tSm := ⟨false, Config.freeRem (s.freeCount + 1)⟩
    tTx := ⟨false, Config.freeRem (s.freeCount + 2)⟩
    tOpen := ⟨false, Config.freeRem (s.freeCount + 3)⟩
    out := s.out
    answers := s.answers
    agenda := s.agenda
    freeCount := s.freeCount + 4 }

/-- HW_RESET (R281, R282). -/
def execHwReset (s : State) : Host.Outcome State Fault Refusal := .next s.hardwareReset

end Sys2Proof.Machine
end

