-- ==== Sys2Proof/Machine/Tokens.lean ====
section
/-! DEFINITION. The frame tokens (format SLIP): their bytes arrive on TI and RX.BYTE consumes them, as an `RX` line of R112
says (log 10). -/

namespace Sys2Proof.Machine

/-- DELIM (R90, R137). -/
def execDelim (s : State) : Host.Outcome State Fault Refusal := .next (s.receive [s.cfg.delim])

/-- ESC_DELIM_TOKEN (R91 (a)). -/
def execEscDelimToken (s : State) : Host.Outcome State Fault Refusal := .next (s.receive [s.cfg.esc, s.cfg.escDelim])

/-- ESC_ESC_TOKEN (R91 (b)). -/
def execEscEscToken (s : State) : Host.Outcome State Fault Refusal := .next (s.receive [s.cfg.esc, s.cfg.escEsc])

/-- LITERAL (R91 (c)). -/
def execLiteral (b : Byte) (s : State) : Host.Outcome State Fault Refusal := .next (s.receive [b])

/-- ESC_INVALID (R91 (d), R106 (a)): kept by the reassembler like any bytes, refused when the chunk is decoded. -/
def execEscInvalid (x : Option Byte) (s : State) : Host.Outcome State Fault Refusal :=
  .next (s.receive (s.cfg.esc :: x.toList))

end Sys2Proof.Machine
end

