-- ==== Sys2Proof/Machine/Transport.lean ====
section
/-! DEFINITION. The transport indications (format TI): T_DATA (R136), T_STATUS (R250), T_LOG (R251). -/

namespace Sys2Proof.Machine

/-- T_DATA(bs) (R136). -/
def execTData (bs : Bytes) (s : State) : Host.Outcome State Fault Refusal := .next (s.indicate bs)

/-- T_STATUS(code, m) (R250): the message is not kept. -/
def execTStatus (code : BitVec 32) (_m : Bytes) (s : State) : Host.Outcome State Fault Refusal :=
  .next { s with exit := { s.exit with ioError := s.exit.ioError || (s.linkOpen && isIoError s.cfg code) } }

/-- T_LOG(sev, m) (R251): one LOG indication, whatever `link_open` and `state` are. -/
def execTLog (sev : Byte) (m : Bytes) (s : State) : Host.Outcome State Fault Refusal :=
  .next (s.logLine (.transport sev m))

end Sys2Proof.Machine
end

