-- ==== Sys2Proof/Machine/Dispatch.lean ====
section
/-! DEFINITION. The meaning of every operation, one arm each. -/

namespace Sys2Proof.Machine

def exec (i : Instr) (s : State) : Host.Outcome State Fault Refusal :=
  match i with
  -- SLIP
  | .delim => Sys2Proof.Machine.execDelim s
  | .escDelimToken => Sys2Proof.Machine.execEscDelimToken s
  | .escEscToken => Sys2Proof.Machine.execEscEscToken s
  | .literal b => Sys2Proof.Machine.execLiteral b s
  | .escInvalid x => Sys2Proof.Machine.execEscInvalid x s
  -- H5HDR
  | .kAck d => Sys2Proof.Machine.execKAck d s
  | .kData d => Sys2Proof.Machine.execKData d s
  | .kDataUnrel d => Sys2Proof.Machine.execKDataUnrel d s
  | .kReset d => Sys2Proof.Machine.execKReset d s
  | .kSync d => Sys2Proof.Machine.execKSync d s
  | .kSyncRsp d => Sys2Proof.Machine.execKSyncRsp d s
  | .kConfig d => Sys2Proof.Machine.execKConfig d s
  | .kConfigRsp d => Sys2Proof.Machine.execKConfigRsp d s
  | .kOther d => Sys2Proof.Machine.execKOther d s
  -- TXFRAME
  | .resetFrame => Sys2Proof.Machine.execResetFrame s
  | .syncFrame => Sys2Proof.Machine.execSyncFrame s
  | .syncRspFrame => Sys2Proof.Machine.execSyncRspFrame s
  | .configFrame => Sys2Proof.Machine.execConfigFrame s
  | .configRspFrame => Sys2Proof.Machine.execConfigRspFrame s
  | .ackFrame a => Sys2Proof.Machine.execAckFrame a s
  | .dataFrame p sq a => Sys2Proof.Machine.execDataFrame p sq a s
  -- FN
  | .frameEncode p => Sys2Proof.Machine.execFrameEncode p s
  | .frameDecode f => Sys2Proof.Machine.execFrameDecode f s
  | .pktEncode p seq ack reliable integrity type => Sys2Proof.Machine.execPktEncode p seq ack reliable integrity type s
  | .pktDecode k => Sys2Proof.Machine.execPktDecode k s
  | .seqInc n => Sys2Proof.Machine.execSeqInc n s
  -- HC
  | .hostOpen => Sys2Proof.Machine.execHostOpen s
  | .hostClose => Sys2Proof.Machine.execHostClose s
  | .hostSend p => Sys2Proof.Machine.execHostSend p s
  -- TI
  | .tData bs => Sys2Proof.Machine.execTData bs s
  | .tStatus code m => Sys2Proof.Machine.execTStatus code m s
  | .tLog sev m => Sys2Proof.Machine.execTLog sev m s
  -- EVT
  | .rxByte => Sys2Proof.Machine.execRxByte s
  | .rxFrame chunk ovf => Sys2Proof.Machine.execRxFrame chunk ovf s
  | .rxSyncRsp => Sys2Proof.Machine.execRxSyncRsp s
  | .rxSync => Sys2Proof.Machine.execRxSync s
  | .rxSyncActive => Sys2Proof.Machine.execRxSyncActive s
  | .rxConfigRsp => Sys2Proof.Machine.execRxConfigRsp s
  | .rxConfig => Sys2Proof.Machine.execRxConfig s
  | .rxAck d => Sys2Proof.Machine.execRxAck d s
  | .rxData d => Sys2Proof.Machine.execRxData d s
  | .seqAbort => Sys2Proof.Machine.execSeqAbort s
  | .seqStart => Sys2Proof.Machine.execSeqStart s
  | .seqReset => Sys2Proof.Machine.execSeqReset s
  | .seqUninitOk => Sys2Proof.Machine.execSeqUninitOk s
  | .seqUninitNr => Sys2Proof.Machine.execSeqUninitNr s
  | .seqInitOk => Sys2Proof.Machine.execSeqInitOk s
  | .seqInitNr => Sys2Proof.Machine.execSeqInitNr s
  | .seqActive => Sys2Proof.Machine.execSeqActive s
  | .closeDone => Sys2Proof.Machine.execCloseDone s
  | .txAbort => Sys2Proof.Machine.execTxAbort s
  | .tSmExpire => Sys2Proof.Machine.execTSmExpire s
  | .tTxExpire => Sys2Proof.Machine.execTTxExpire s
  | .tOpenExpire => Sys2Proof.Machine.execTOpenExpire s
  | .tick => Sys2Proof.Machine.execTick s
  | .hwReset => Sys2Proof.Machine.execHwReset s

end Sys2Proof.Machine
end

