-- ==== Sys2Proof/Machine/Step.lean ====
section
/-! DEFINITION. One step: take the next message of the agenda, decode it and run its operation (R16, R71; log 1). -/

namespace Sys2Proof.Machine

/-- One step. With parameters that break R293 it stops with a fault (U31); with nothing presented the block waits (R281). -/
def step (s : State) : Host.Outcome State Fault Refusal :=
  if s.configured then
    match s.fetch with
    | none => .next s
    | some (m, s') =>
      match decode s'.cfg m with
      | .ok i => exec i s'
      | .error e => s'.noOperation e
  else .fault .invalidConfiguration

/-- `s` with the message of a table word at the head of the agenda, where the next step fetches it (log 14). -/
def State.withFetchWord (s : State) (nbits w : Nat) : State := s.withMessage (tableMessage nbits w)

end Sys2Proof.Machine
end

