-- ==== Sys2Proof/Laws/State.lean ====
section
/-! SUPPORT. What each update of State leaves and writes: one lemma per field per update, so that no proof unfolds one. -/

namespace Sys2Proof.Machine

section

variable (s : State)

@[simp] theorem State.put_cfg (o : OutMsg) : (s.put o).cfg = s.cfg := rfl
@[simp] theorem State.put_state (o : OutMsg) : (s.put o).state = s.state := rfl
@[simp] theorem State.put_linkOpen (o : OutMsg) : (s.put o).linkOpen = s.linkOpen := rfl
@[simp] theorem State.put_seqNum (o : OutMsg) : (s.put o).seqNum = s.seqNum := rfl
@[simp] theorem State.put_ackNum (o : OutMsg) : (s.put o).ackNum = s.ackNum := rfl
@[simp] theorem State.put_retryCnt (o : OutMsg) : (s.put o).retryCnt = s.retryCnt := rfl
@[simp] theorem State.put_txRetryCnt (o : OutMsg) : (s.put o).txRetryCnt = s.txRetryCnt := rfl
@[simp] theorem State.put_errCount (o : OutMsg) : (s.put o).errCount = s.errCount := rfl
@[simp] theorem State.put_exit (o : OutMsg) : (s.put o).exit = s.exit := rfl
@[simp] theorem State.put_openPending (o : OutMsg) : (s.put o).openPending = s.openPending := rfl
@[simp] theorem State.put_closePending (o : OutMsg) : (s.put o).closePending = s.closePending := rfl
@[simp] theorem State.put_txBusy (o : OutMsg) : (s.put o).txBusy = s.txBusy := rfl
@[simp] theorem State.put_txFrame (o : OutMsg) : (s.put o).txFrame = s.txFrame := rfl
@[simp] theorem State.put_rxSync (o : OutMsg) : (s.put o).rxSync = s.rxSync := rfl
@[simp] theorem State.put_rxBuf (o : OutMsg) : (s.put o).rxBuf = s.rxBuf := rfl
@[simp] theorem State.put_rxOvf (o : OutMsg) : (s.put o).rxOvf = s.rxOvf := rfl
@[simp] theorem State.put_tSm (o : OutMsg) : (s.put o).tSm = s.tSm := rfl
@[simp] theorem State.put_tTx (o : OutMsg) : (s.put o).tTx = s.tTx := rfl
@[simp] theorem State.put_tOpen (o : OutMsg) : (s.put o).tOpen = s.tOpen := rfl
@[simp] theorem State.put_flt (o : OutMsg) : (s.put o).flt = s.flt := rfl
@[simp] theorem State.put_inbound (o : OutMsg) : (s.put o).inbound = s.inbound := rfl
@[simp] theorem State.put_hcWait (o : OutMsg) : (s.put o).hcWait = s.hcWait := rfl
@[simp] theorem State.put_out (o : OutMsg) : (s.put o).out = s.out ++ [o] := rfl
@[simp] theorem State.put_answers (o : OutMsg) : (s.put o).answers = s.answers := rfl
@[simp] theorem State.put_agenda (o : OutMsg) : (s.put o).agenda = s.agenda := rfl
@[simp] theorem State.put_freeCount (o : OutMsg) : (s.put o).freeCount = s.freeCount := rfl

@[simp] theorem State.complete_eq_put (op : HostOp) (r : ResultCode) : s.complete op r = s.put (.hr op r) := rfl
@[simp] theorem State.deliver_eq_put (p : Bytes) : s.deliver p = s.put (.up (.data p)) := rfl
@[simp] theorem State.status_eq_put (st : ConnState) (c : Cause) : s.status st c = s.put (.up (.status st c)) := rfl
@[simp] theorem State.logLine_eq_put (l : LogLine) : s.logLine l = s.put (.up (.log l)) := rfl
@[simp] theorem State.fnOut_eq_put (r : FnResult) : s.fnOut r = s.put (.fn r) := rfl

@[simp] theorem State.timer_sm : s.timer .sm = s.tSm := rfl
@[simp] theorem State.setTimer_sm_cfg (v : Timer) : (s.setTimer .sm v).cfg = s.cfg := rfl
@[simp] theorem State.setTimer_sm_state (v : Timer) : (s.setTimer .sm v).state = s.state := rfl
@[simp] theorem State.setTimer_sm_linkOpen (v : Timer) : (s.setTimer .sm v).linkOpen = s.linkOpen := rfl
@[simp] theorem State.setTimer_sm_seqNum (v : Timer) : (s.setTimer .sm v).seqNum = s.seqNum := rfl
@[simp] theorem State.setTimer_sm_ackNum (v : Timer) : (s.setTimer .sm v).ackNum = s.ackNum := rfl
@[simp] theorem State.setTimer_sm_retryCnt (v : Timer) : (s.setTimer .sm v).retryCnt = s.retryCnt := rfl
@[simp] theorem State.setTimer_sm_txRetryCnt (v : Timer) : (s.setTimer .sm v).txRetryCnt = s.txRetryCnt := rfl
@[simp] theorem State.setTimer_sm_errCount (v : Timer) : (s.setTimer .sm v).errCount = s.errCount := rfl
@[simp] theorem State.setTimer_sm_exit (v : Timer) : (s.setTimer .sm v).exit = s.exit := rfl
@[simp] theorem State.setTimer_sm_openPending (v : Timer) : (s.setTimer .sm v).openPending = s.openPending := rfl
@[simp] theorem State.setTimer_sm_closePending (v : Timer) : (s.setTimer .sm v).closePending = s.closePending := rfl
@[simp] theorem State.setTimer_sm_txBusy (v : Timer) : (s.setTimer .sm v).txBusy = s.txBusy := rfl
@[simp] theorem State.setTimer_sm_txFrame (v : Timer) : (s.setTimer .sm v).txFrame = s.txFrame := rfl
@[simp] theorem State.setTimer_sm_rxSync (v : Timer) : (s.setTimer .sm v).rxSync = s.rxSync := rfl
@[simp] theorem State.setTimer_sm_rxBuf (v : Timer) : (s.setTimer .sm v).rxBuf = s.rxBuf := rfl
@[simp] theorem State.setTimer_sm_rxOvf (v : Timer) : (s.setTimer .sm v).rxOvf = s.rxOvf := rfl
@[simp] theorem State.setTimer_sm_tSm (v : Timer) : (s.setTimer .sm v).tSm = v := rfl
@[simp] theorem State.setTimer_sm_tTx (v : Timer) : (s.setTimer .sm v).tTx = s.tTx := rfl
@[simp] theorem State.setTimer_sm_tOpen (v : Timer) : (s.setTimer .sm v).tOpen = s.tOpen := rfl
@[simp] theorem State.setTimer_sm_flt (v : Timer) : (s.setTimer .sm v).flt = s.flt := rfl
@[simp] theorem State.setTimer_sm_inbound (v : Timer) : (s.setTimer .sm v).inbound = s.inbound := rfl
@[simp] theorem State.setTimer_sm_hcWait (v : Timer) : (s.setTimer .sm v).hcWait = s.hcWait := rfl
@[simp] theorem State.setTimer_sm_out (v : Timer) : (s.setTimer .sm v).out = s.out := rfl
@[simp] theorem State.setTimer_sm_answers (v : Timer) : (s.setTimer .sm v).answers = s.answers := rfl
@[simp] theorem State.setTimer_sm_agenda (v : Timer) : (s.setTimer .sm v).agenda = s.agenda := rfl
@[simp] theorem State.setTimer_sm_freeCount (v : Timer) : (s.setTimer .sm v).freeCount = s.freeCount := rfl

@[simp] theorem State.arm_sm_cfg (d : Nat) : (s.arm .sm d).cfg = s.cfg := rfl
@[simp] theorem State.arm_sm_state (d : Nat) : (s.arm .sm d).state = s.state := rfl
@[simp] theorem State.arm_sm_linkOpen (d : Nat) : (s.arm .sm d).linkOpen = s.linkOpen := rfl
@[simp] theorem State.arm_sm_seqNum (d : Nat) : (s.arm .sm d).seqNum = s.seqNum := rfl
@[simp] theorem State.arm_sm_ackNum (d : Nat) : (s.arm .sm d).ackNum = s.ackNum := rfl
@[simp] theorem State.arm_sm_retryCnt (d : Nat) : (s.arm .sm d).retryCnt = s.retryCnt := rfl
@[simp] theorem State.arm_sm_txRetryCnt (d : Nat) : (s.arm .sm d).txRetryCnt = s.txRetryCnt := rfl
@[simp] theorem State.arm_sm_errCount (d : Nat) : (s.arm .sm d).errCount = s.errCount := rfl
@[simp] theorem State.arm_sm_exit (d : Nat) : (s.arm .sm d).exit = s.exit := rfl
@[simp] theorem State.arm_sm_openPending (d : Nat) : (s.arm .sm d).openPending = s.openPending := rfl
@[simp] theorem State.arm_sm_closePending (d : Nat) : (s.arm .sm d).closePending = s.closePending := rfl
@[simp] theorem State.arm_sm_txBusy (d : Nat) : (s.arm .sm d).txBusy = s.txBusy := rfl
@[simp] theorem State.arm_sm_txFrame (d : Nat) : (s.arm .sm d).txFrame = s.txFrame := rfl
@[simp] theorem State.arm_sm_rxSync (d : Nat) : (s.arm .sm d).rxSync = s.rxSync := rfl
@[simp] theorem State.arm_sm_rxBuf (d : Nat) : (s.arm .sm d).rxBuf = s.rxBuf := rfl
@[simp] theorem State.arm_sm_rxOvf (d : Nat) : (s.arm .sm d).rxOvf = s.rxOvf := rfl
@[simp] theorem State.arm_sm_tSm (d : Nat) : (s.arm .sm d).tSm = ⟨true, BitVec.ofNat 16 (ticks s.cfg d)⟩ := rfl
@[simp] theorem State.arm_sm_tTx (d : Nat) : (s.arm .sm d).tTx = s.tTx := rfl
@[simp] theorem State.arm_sm_tOpen (d : Nat) : (s.arm .sm d).tOpen = s.tOpen := rfl
@[simp] theorem State.arm_sm_flt (d : Nat) : (s.arm .sm d).flt = s.flt := rfl
@[simp] theorem State.arm_sm_inbound (d : Nat) : (s.arm .sm d).inbound = s.inbound := rfl
@[simp] theorem State.arm_sm_hcWait (d : Nat) : (s.arm .sm d).hcWait = s.hcWait := rfl
@[simp] theorem State.arm_sm_out (d : Nat) : (s.arm .sm d).out = s.out := rfl
@[simp] theorem State.arm_sm_answers (d : Nat) : (s.arm .sm d).answers = s.answers := rfl
@[simp] theorem State.arm_sm_agenda (d : Nat) : (s.arm .sm d).agenda = s.agenda := rfl
@[simp] theorem State.arm_sm_freeCount (d : Nat) : (s.arm .sm d).freeCount = s.freeCount := rfl

@[simp] theorem State.disarm_sm_cfg : (s.disarm .sm).cfg = s.cfg := rfl
@[simp] theorem State.disarm_sm_state : (s.disarm .sm).state = s.state := rfl
@[simp] theorem State.disarm_sm_linkOpen : (s.disarm .sm).linkOpen = s.linkOpen := rfl
@[simp] theorem State.disarm_sm_seqNum : (s.disarm .sm).seqNum = s.seqNum := rfl
@[simp] theorem State.disarm_sm_ackNum : (s.disarm .sm).ackNum = s.ackNum := rfl
@[simp] theorem State.disarm_sm_retryCnt : (s.disarm .sm).retryCnt = s.retryCnt := rfl
@[simp] theorem State.disarm_sm_txRetryCnt : (s.disarm .sm).txRetryCnt = s.txRetryCnt := rfl
@[simp] theorem State.disarm_sm_errCount : (s.disarm .sm).errCount = s.errCount := rfl
@[simp] theorem State.disarm_sm_exit : (s.disarm .sm).exit = s.exit := rfl
@[simp] theorem State.disarm_sm_openPending : (s.disarm .sm).openPending = s.openPending := rfl
@[simp] theorem State.disarm_sm_closePending : (s.disarm .sm).closePending = s.closePending := rfl
@[simp] theorem State.disarm_sm_txBusy : (s.disarm .sm).txBusy = s.txBusy := rfl
@[simp] theorem State.disarm_sm_txFrame : (s.disarm .sm).txFrame = s.txFrame := rfl
@[simp] theorem State.disarm_sm_rxSync : (s.disarm .sm).rxSync = s.rxSync := rfl
@[simp] theorem State.disarm_sm_rxBuf : (s.disarm .sm).rxBuf = s.rxBuf := rfl
@[simp] theorem State.disarm_sm_rxOvf : (s.disarm .sm).rxOvf = s.rxOvf := rfl
@[simp] theorem State.disarm_sm_tSm : (s.disarm .sm).tSm = ⟨false, Config.freeRem s.freeCount⟩ := rfl
@[simp] theorem State.disarm_sm_tTx : (s.disarm .sm).tTx = s.tTx := rfl
@[simp] theorem State.disarm_sm_tOpen : (s.disarm .sm).tOpen = s.tOpen := rfl
@[simp] theorem State.disarm_sm_flt : (s.disarm .sm).flt = s.flt := rfl
@[simp] theorem State.disarm_sm_inbound : (s.disarm .sm).inbound = s.inbound := rfl
@[simp] theorem State.disarm_sm_hcWait : (s.disarm .sm).hcWait = s.hcWait := rfl
@[simp] theorem State.disarm_sm_out : (s.disarm .sm).out = s.out := rfl
@[simp] theorem State.disarm_sm_answers : (s.disarm .sm).answers = s.answers := rfl
@[simp] theorem State.disarm_sm_agenda : (s.disarm .sm).agenda = s.agenda := rfl
@[simp] theorem State.disarm_sm_freeCount : (s.disarm .sm).freeCount = s.freeCount + 1 := rfl

@[simp] theorem State.timer_tx : s.timer .tx = s.tTx := rfl
@[simp] theorem State.setTimer_tx_cfg (v : Timer) : (s.setTimer .tx v).cfg = s.cfg := rfl
@[simp] theorem State.setTimer_tx_state (v : Timer) : (s.setTimer .tx v).state = s.state := rfl
@[simp] theorem State.setTimer_tx_linkOpen (v : Timer) : (s.setTimer .tx v).linkOpen = s.linkOpen := rfl
@[simp] theorem State.setTimer_tx_seqNum (v : Timer) : (s.setTimer .tx v).seqNum = s.seqNum := rfl
@[simp] theorem State.setTimer_tx_ackNum (v : Timer) : (s.setTimer .tx v).ackNum = s.ackNum := rfl
@[simp] theorem State.setTimer_tx_retryCnt (v : Timer) : (s.setTimer .tx v).retryCnt = s.retryCnt := rfl
@[simp] theorem State.setTimer_tx_txRetryCnt (v : Timer) : (s.setTimer .tx v).txRetryCnt = s.txRetryCnt := rfl
@[simp] theorem State.setTimer_tx_errCount (v : Timer) : (s.setTimer .tx v).errCount = s.errCount := rfl
@[simp] theorem State.setTimer_tx_exit (v : Timer) : (s.setTimer .tx v).exit = s.exit := rfl
@[simp] theorem State.setTimer_tx_openPending (v : Timer) : (s.setTimer .tx v).openPending = s.openPending := rfl
@[simp] theorem State.setTimer_tx_closePending (v : Timer) : (s.setTimer .tx v).closePending = s.closePending := rfl
@[simp] theorem State.setTimer_tx_txBusy (v : Timer) : (s.setTimer .tx v).txBusy = s.txBusy := rfl
@[simp] theorem State.setTimer_tx_txFrame (v : Timer) : (s.setTimer .tx v).txFrame = s.txFrame := rfl
@[simp] theorem State.setTimer_tx_rxSync (v : Timer) : (s.setTimer .tx v).rxSync = s.rxSync := rfl
@[simp] theorem State.setTimer_tx_rxBuf (v : Timer) : (s.setTimer .tx v).rxBuf = s.rxBuf := rfl
@[simp] theorem State.setTimer_tx_rxOvf (v : Timer) : (s.setTimer .tx v).rxOvf = s.rxOvf := rfl
@[simp] theorem State.setTimer_tx_tSm (v : Timer) : (s.setTimer .tx v).tSm = s.tSm := rfl
@[simp] theorem State.setTimer_tx_tTx (v : Timer) : (s.setTimer .tx v).tTx = v := rfl
@[simp] theorem State.setTimer_tx_tOpen (v : Timer) : (s.setTimer .tx v).tOpen = s.tOpen := rfl
@[simp] theorem State.setTimer_tx_flt (v : Timer) : (s.setTimer .tx v).flt = s.flt := rfl
@[simp] theorem State.setTimer_tx_inbound (v : Timer) : (s.setTimer .tx v).inbound = s.inbound := rfl
@[simp] theorem State.setTimer_tx_hcWait (v : Timer) : (s.setTimer .tx v).hcWait = s.hcWait := rfl
@[simp] theorem State.setTimer_tx_out (v : Timer) : (s.setTimer .tx v).out = s.out := rfl
@[simp] theorem State.setTimer_tx_answers (v : Timer) : (s.setTimer .tx v).answers = s.answers := rfl
@[simp] theorem State.setTimer_tx_agenda (v : Timer) : (s.setTimer .tx v).agenda = s.agenda := rfl
@[simp] theorem State.setTimer_tx_freeCount (v : Timer) : (s.setTimer .tx v).freeCount = s.freeCount := rfl

@[simp] theorem State.arm_tx_cfg (d : Nat) : (s.arm .tx d).cfg = s.cfg := rfl
@[simp] theorem State.arm_tx_state (d : Nat) : (s.arm .tx d).state = s.state := rfl
@[simp] theorem State.arm_tx_linkOpen (d : Nat) : (s.arm .tx d).linkOpen = s.linkOpen := rfl
@[simp] theorem State.arm_tx_seqNum (d : Nat) : (s.arm .tx d).seqNum = s.seqNum := rfl
@[simp] theorem State.arm_tx_ackNum (d : Nat) : (s.arm .tx d).ackNum = s.ackNum := rfl
@[simp] theorem State.arm_tx_retryCnt (d : Nat) : (s.arm .tx d).retryCnt = s.retryCnt := rfl
@[simp] theorem State.arm_tx_txRetryCnt (d : Nat) : (s.arm .tx d).txRetryCnt = s.txRetryCnt := rfl
@[simp] theorem State.arm_tx_errCount (d : Nat) : (s.arm .tx d).errCount = s.errCount := rfl
@[simp] theorem State.arm_tx_exit (d : Nat) : (s.arm .tx d).exit = s.exit := rfl
@[simp] theorem State.arm_tx_openPending (d : Nat) : (s.arm .tx d).openPending = s.openPending := rfl
@[simp] theorem State.arm_tx_closePending (d : Nat) : (s.arm .tx d).closePending = s.closePending := rfl
@[simp] theorem State.arm_tx_txBusy (d : Nat) : (s.arm .tx d).txBusy = s.txBusy := rfl
@[simp] theorem State.arm_tx_txFrame (d : Nat) : (s.arm .tx d).txFrame = s.txFrame := rfl
@[simp] theorem State.arm_tx_rxSync (d : Nat) : (s.arm .tx d).rxSync = s.rxSync := rfl
@[simp] theorem State.arm_tx_rxBuf (d : Nat) : (s.arm .tx d).rxBuf = s.rxBuf := rfl
@[simp] theorem State.arm_tx_rxOvf (d : Nat) : (s.arm .tx d).rxOvf = s.rxOvf := rfl
@[simp] theorem State.arm_tx_tSm (d : Nat) : (s.arm .tx d).tSm = s.tSm := rfl
@[simp] theorem State.arm_tx_tTx (d : Nat) : (s.arm .tx d).tTx = ⟨true, BitVec.ofNat 16 (ticks s.cfg d)⟩ := rfl
@[simp] theorem State.arm_tx_tOpen (d : Nat) : (s.arm .tx d).tOpen = s.tOpen := rfl
@[simp] theorem State.arm_tx_flt (d : Nat) : (s.arm .tx d).flt = s.flt := rfl
@[simp] theorem State.arm_tx_inbound (d : Nat) : (s.arm .tx d).inbound = s.inbound := rfl
@[simp] theorem State.arm_tx_hcWait (d : Nat) : (s.arm .tx d).hcWait = s.hcWait := rfl
@[simp] theorem State.arm_tx_out (d : Nat) : (s.arm .tx d).out = s.out := rfl
@[simp] theorem State.arm_tx_answers (d : Nat) : (s.arm .tx d).answers = s.answers := rfl
@[simp] theorem State.arm_tx_agenda (d : Nat) : (s.arm .tx d).agenda = s.agenda := rfl
@[simp] theorem State.arm_tx_freeCount (d : Nat) : (s.arm .tx d).freeCount = s.freeCount := rfl

@[simp] theorem State.disarm_tx_cfg : (s.disarm .tx).cfg = s.cfg := rfl
@[simp] theorem State.disarm_tx_state : (s.disarm .tx).state = s.state := rfl
@[simp] theorem State.disarm_tx_linkOpen : (s.disarm .tx).linkOpen = s.linkOpen := rfl
@[simp] theorem State.disarm_tx_seqNum : (s.disarm .tx).seqNum = s.seqNum := rfl
@[simp] theorem State.disarm_tx_ackNum : (s.disarm .tx).ackNum = s.ackNum := rfl
@[simp] theorem State.disarm_tx_retryCnt : (s.disarm .tx).retryCnt = s.retryCnt := rfl
@[simp] theorem State.disarm_tx_txRetryCnt : (s.disarm .tx).txRetryCnt = s.txRetryCnt := rfl
@[simp] theorem State.disarm_tx_errCount : (s.disarm .tx).errCount = s.errCount := rfl
@[simp] theorem State.disarm_tx_exit : (s.disarm .tx).exit = s.exit := rfl
@[simp] theorem State.disarm_tx_openPending : (s.disarm .tx).openPending = s.openPending := rfl
@[simp] theorem State.disarm_tx_closePending : (s.disarm .tx).closePending = s.closePending := rfl
@[simp] theorem State.disarm_tx_txBusy : (s.disarm .tx).txBusy = s.txBusy := rfl
@[simp] theorem State.disarm_tx_txFrame : (s.disarm .tx).txFrame = s.txFrame := rfl
@[simp] theorem State.disarm_tx_rxSync : (s.disarm .tx).rxSync = s.rxSync := rfl
@[simp] theorem State.disarm_tx_rxBuf : (s.disarm .tx).rxBuf = s.rxBuf := rfl
@[simp] theorem State.disarm_tx_rxOvf : (s.disarm .tx).rxOvf = s.rxOvf := rfl
@[simp] theorem State.disarm_tx_tSm : (s.disarm .tx).tSm = s.tSm := rfl
@[simp] theorem State.disarm_tx_tTx : (s.disarm .tx).tTx = ⟨false, Config.freeRem s.freeCount⟩ := rfl
@[simp] theorem State.disarm_tx_tOpen : (s.disarm .tx).tOpen = s.tOpen := rfl
@[simp] theorem State.disarm_tx_flt : (s.disarm .tx).flt = s.flt := rfl
@[simp] theorem State.disarm_tx_inbound : (s.disarm .tx).inbound = s.inbound := rfl
@[simp] theorem State.disarm_tx_hcWait : (s.disarm .tx).hcWait = s.hcWait := rfl
@[simp] theorem State.disarm_tx_out : (s.disarm .tx).out = s.out := rfl
@[simp] theorem State.disarm_tx_answers : (s.disarm .tx).answers = s.answers := rfl
@[simp] theorem State.disarm_tx_agenda : (s.disarm .tx).agenda = s.agenda := rfl
@[simp] theorem State.disarm_tx_freeCount : (s.disarm .tx).freeCount = s.freeCount + 1 := rfl

@[simp] theorem State.timer_opn : s.timer .opn = s.tOpen := rfl
@[simp] theorem State.setTimer_opn_cfg (v : Timer) : (s.setTimer .opn v).cfg = s.cfg := rfl
@[simp] theorem State.setTimer_opn_state (v : Timer) : (s.setTimer .opn v).state = s.state := rfl
@[simp] theorem State.setTimer_opn_linkOpen (v : Timer) : (s.setTimer .opn v).linkOpen = s.linkOpen := rfl
@[simp] theorem State.setTimer_opn_seqNum (v : Timer) : (s.setTimer .opn v).seqNum = s.seqNum := rfl
@[simp] theorem State.setTimer_opn_ackNum (v : Timer) : (s.setTimer .opn v).ackNum = s.ackNum := rfl
@[simp] theorem State.setTimer_opn_retryCnt (v : Timer) : (s.setTimer .opn v).retryCnt = s.retryCnt := rfl
@[simp] theorem State.setTimer_opn_txRetryCnt (v : Timer) : (s.setTimer .opn v).txRetryCnt = s.txRetryCnt := rfl
@[simp] theorem State.setTimer_opn_errCount (v : Timer) : (s.setTimer .opn v).errCount = s.errCount := rfl
@[simp] theorem State.setTimer_opn_exit (v : Timer) : (s.setTimer .opn v).exit = s.exit := rfl
@[simp] theorem State.setTimer_opn_openPending (v : Timer) : (s.setTimer .opn v).openPending = s.openPending := rfl
@[simp] theorem State.setTimer_opn_closePending (v : Timer) : (s.setTimer .opn v).closePending = s.closePending := rfl
@[simp] theorem State.setTimer_opn_txBusy (v : Timer) : (s.setTimer .opn v).txBusy = s.txBusy := rfl
@[simp] theorem State.setTimer_opn_txFrame (v : Timer) : (s.setTimer .opn v).txFrame = s.txFrame := rfl
@[simp] theorem State.setTimer_opn_rxSync (v : Timer) : (s.setTimer .opn v).rxSync = s.rxSync := rfl
@[simp] theorem State.setTimer_opn_rxBuf (v : Timer) : (s.setTimer .opn v).rxBuf = s.rxBuf := rfl
@[simp] theorem State.setTimer_opn_rxOvf (v : Timer) : (s.setTimer .opn v).rxOvf = s.rxOvf := rfl
@[simp] theorem State.setTimer_opn_tSm (v : Timer) : (s.setTimer .opn v).tSm = s.tSm := rfl
@[simp] theorem State.setTimer_opn_tTx (v : Timer) : (s.setTimer .opn v).tTx = s.tTx := rfl
@[simp] theorem State.setTimer_opn_tOpen (v : Timer) : (s.setTimer .opn v).tOpen = v := rfl
@[simp] theorem State.setTimer_opn_flt (v : Timer) : (s.setTimer .opn v).flt = s.flt := rfl
@[simp] theorem State.setTimer_opn_inbound (v : Timer) : (s.setTimer .opn v).inbound = s.inbound := rfl
@[simp] theorem State.setTimer_opn_hcWait (v : Timer) : (s.setTimer .opn v).hcWait = s.hcWait := rfl
@[simp] theorem State.setTimer_opn_out (v : Timer) : (s.setTimer .opn v).out = s.out := rfl
@[simp] theorem State.setTimer_opn_answers (v : Timer) : (s.setTimer .opn v).answers = s.answers := rfl
@[simp] theorem State.setTimer_opn_agenda (v : Timer) : (s.setTimer .opn v).agenda = s.agenda := rfl
@[simp] theorem State.setTimer_opn_freeCount (v : Timer) : (s.setTimer .opn v).freeCount = s.freeCount := rfl

@[simp] theorem State.arm_opn_cfg (d : Nat) : (s.arm .opn d).cfg = s.cfg := rfl
@[simp] theorem State.arm_opn_state (d : Nat) : (s.arm .opn d).state = s.state := rfl
@[simp] theorem State.arm_opn_linkOpen (d : Nat) : (s.arm .opn d).linkOpen = s.linkOpen := rfl
@[simp] theorem State.arm_opn_seqNum (d : Nat) : (s.arm .opn d).seqNum = s.seqNum := rfl
@[simp] theorem State.arm_opn_ackNum (d : Nat) : (s.arm .opn d).ackNum = s.ackNum := rfl
@[simp] theorem State.arm_opn_retryCnt (d : Nat) : (s.arm .opn d).retryCnt = s.retryCnt := rfl
@[simp] theorem State.arm_opn_txRetryCnt (d : Nat) : (s.arm .opn d).txRetryCnt = s.txRetryCnt := rfl
@[simp] theorem State.arm_opn_errCount (d : Nat) : (s.arm .opn d).errCount = s.errCount := rfl
@[simp] theorem State.arm_opn_exit (d : Nat) : (s.arm .opn d).exit = s.exit := rfl
@[simp] theorem State.arm_opn_openPending (d : Nat) : (s.arm .opn d).openPending = s.openPending := rfl
@[simp] theorem State.arm_opn_closePending (d : Nat) : (s.arm .opn d).closePending = s.closePending := rfl
@[simp] theorem State.arm_opn_txBusy (d : Nat) : (s.arm .opn d).txBusy = s.txBusy := rfl
@[simp] theorem State.arm_opn_txFrame (d : Nat) : (s.arm .opn d).txFrame = s.txFrame := rfl
@[simp] theorem State.arm_opn_rxSync (d : Nat) : (s.arm .opn d).rxSync = s.rxSync := rfl
@[simp] theorem State.arm_opn_rxBuf (d : Nat) : (s.arm .opn d).rxBuf = s.rxBuf := rfl
@[simp] theorem State.arm_opn_rxOvf (d : Nat) : (s.arm .opn d).rxOvf = s.rxOvf := rfl
@[simp] theorem State.arm_opn_tSm (d : Nat) : (s.arm .opn d).tSm = s.tSm := rfl
@[simp] theorem State.arm_opn_tTx (d : Nat) : (s.arm .opn d).tTx = s.tTx := rfl
@[simp] theorem State.arm_opn_tOpen (d : Nat) : (s.arm .opn d).tOpen = ⟨true, BitVec.ofNat 16 (ticks s.cfg d)⟩ := rfl
@[simp] theorem State.arm_opn_flt (d : Nat) : (s.arm .opn d).flt = s.flt := rfl
@[simp] theorem State.arm_opn_inbound (d : Nat) : (s.arm .opn d).inbound = s.inbound := rfl
@[simp] theorem State.arm_opn_hcWait (d : Nat) : (s.arm .opn d).hcWait = s.hcWait := rfl
@[simp] theorem State.arm_opn_out (d : Nat) : (s.arm .opn d).out = s.out := rfl
@[simp] theorem State.arm_opn_answers (d : Nat) : (s.arm .opn d).answers = s.answers := rfl
@[simp] theorem State.arm_opn_agenda (d : Nat) : (s.arm .opn d).agenda = s.agenda := rfl
@[simp] theorem State.arm_opn_freeCount (d : Nat) : (s.arm .opn d).freeCount = s.freeCount := rfl

@[simp] theorem State.disarm_opn_cfg : (s.disarm .opn).cfg = s.cfg := rfl
@[simp] theorem State.disarm_opn_state : (s.disarm .opn).state = s.state := rfl
@[simp] theorem State.disarm_opn_linkOpen : (s.disarm .opn).linkOpen = s.linkOpen := rfl
@[simp] theorem State.disarm_opn_seqNum : (s.disarm .opn).seqNum = s.seqNum := rfl
@[simp] theorem State.disarm_opn_ackNum : (s.disarm .opn).ackNum = s.ackNum := rfl
@[simp] theorem State.disarm_opn_retryCnt : (s.disarm .opn).retryCnt = s.retryCnt := rfl
@[simp] theorem State.disarm_opn_txRetryCnt : (s.disarm .opn).txRetryCnt = s.txRetryCnt := rfl
@[simp] theorem State.disarm_opn_errCount : (s.disarm .opn).errCount = s.errCount := rfl
@[simp] theorem State.disarm_opn_exit : (s.disarm .opn).exit = s.exit := rfl
@[simp] theorem State.disarm_opn_openPending : (s.disarm .opn).openPending = s.openPending := rfl
@[simp] theorem State.disarm_opn_closePending : (s.disarm .opn).closePending = s.closePending := rfl
@[simp] theorem State.disarm_opn_txBusy : (s.disarm .opn).txBusy = s.txBusy := rfl
@[simp] theorem State.disarm_opn_txFrame : (s.disarm .opn).txFrame = s.txFrame := rfl
@[simp] theorem State.disarm_opn_rxSync : (s.disarm .opn).rxSync = s.rxSync := rfl
@[simp] theorem State.disarm_opn_rxBuf : (s.disarm .opn).rxBuf = s.rxBuf := rfl
@[simp] theorem State.disarm_opn_rxOvf : (s.disarm .opn).rxOvf = s.rxOvf := rfl
@[simp] theorem State.disarm_opn_tSm : (s.disarm .opn).tSm = s.tSm := rfl
@[simp] theorem State.disarm_opn_tTx : (s.disarm .opn).tTx = s.tTx := rfl
@[simp] theorem State.disarm_opn_tOpen : (s.disarm .opn).tOpen = ⟨false, Config.freeRem s.freeCount⟩ := rfl
@[simp] theorem State.disarm_opn_flt : (s.disarm .opn).flt = s.flt := rfl
@[simp] theorem State.disarm_opn_inbound : (s.disarm .opn).inbound = s.inbound := rfl
@[simp] theorem State.disarm_opn_hcWait : (s.disarm .opn).hcWait = s.hcWait := rfl
@[simp] theorem State.disarm_opn_out : (s.disarm .opn).out = s.out := rfl
@[simp] theorem State.disarm_opn_answers : (s.disarm .opn).answers = s.answers := rfl
@[simp] theorem State.disarm_opn_agenda : (s.disarm .opn).agenda = s.agenda := rfl
@[simp] theorem State.disarm_opn_freeCount : (s.disarm .opn).freeCount = s.freeCount + 1 := rfl

@[simp] theorem State.request_cfg (r : TRequest) : (s.request r).cfg = s.cfg := rfl
@[simp] theorem State.request_state (r : TRequest) : (s.request r).state = s.state := rfl
@[simp] theorem State.request_linkOpen (r : TRequest) : (s.request r).linkOpen = s.linkOpen := rfl
@[simp] theorem State.request_seqNum (r : TRequest) : (s.request r).seqNum = s.seqNum := rfl
@[simp] theorem State.request_ackNum (r : TRequest) : (s.request r).ackNum = s.ackNum := rfl
@[simp] theorem State.request_retryCnt (r : TRequest) : (s.request r).retryCnt = s.retryCnt := rfl
@[simp] theorem State.request_txRetryCnt (r : TRequest) : (s.request r).txRetryCnt = s.txRetryCnt := rfl
@[simp] theorem State.request_errCount (r : TRequest) : (s.request r).errCount = s.errCount := rfl
@[simp] theorem State.request_exit (r : TRequest) : (s.request r).exit = s.exit := rfl
@[simp] theorem State.request_openPending (r : TRequest) : (s.request r).openPending = s.openPending := rfl
@[simp] theorem State.request_closePending (r : TRequest) : (s.request r).closePending = s.closePending := rfl
@[simp] theorem State.request_txBusy (r : TRequest) : (s.request r).txBusy = s.txBusy := rfl
@[simp] theorem State.request_txFrame (r : TRequest) : (s.request r).txFrame = s.txFrame := rfl
@[simp] theorem State.request_rxSync (r : TRequest) : (s.request r).rxSync = s.rxSync := rfl
@[simp] theorem State.request_rxBuf (r : TRequest) : (s.request r).rxBuf = s.rxBuf := rfl
@[simp] theorem State.request_rxOvf (r : TRequest) : (s.request r).rxOvf = s.rxOvf := rfl
@[simp] theorem State.request_tSm (r : TRequest) : (s.request r).tSm = s.tSm := rfl
@[simp] theorem State.request_tTx (r : TRequest) : (s.request r).tTx = s.tTx := rfl
@[simp] theorem State.request_tOpen (r : TRequest) : (s.request r).tOpen = s.tOpen := rfl
@[simp] theorem State.request_flt (r : TRequest) : (s.request r).flt = s.flt := rfl
@[simp] theorem State.request_inbound (r : TRequest) : (s.request r).inbound = s.inbound := rfl
@[simp] theorem State.request_hcWait (r : TRequest) : (s.request r).hcWait = s.hcWait := rfl
@[simp] theorem State.request_out (r : TRequest) : (s.request r).out = s.out ++ [.tq r s.nextAnswer] := rfl
@[simp] theorem State.request_answers (r : TRequest) : (s.request r).answers = s.answers.tail := rfl
@[simp] theorem State.request_agenda (r : TRequest) : (s.request r).agenda = s.agenda := rfl
@[simp] theorem State.request_freeCount (r : TRequest) : (s.request r).freeCount = s.countAfterRequest := rfl

@[simp] theorem State.noteAnswer_cfg (a : Answer) : (s.noteAnswer a).cfg = s.cfg := rfl
@[simp] theorem State.noteAnswer_state (a : Answer) : (s.noteAnswer a).state = s.state := rfl
@[simp] theorem State.noteAnswer_linkOpen (a : Answer) : (s.noteAnswer a).linkOpen = s.linkOpen := rfl
@[simp] theorem State.noteAnswer_seqNum (a : Answer) : (s.noteAnswer a).seqNum = s.seqNum := rfl
@[simp] theorem State.noteAnswer_ackNum (a : Answer) : (s.noteAnswer a).ackNum = s.ackNum := rfl
@[simp] theorem State.noteAnswer_retryCnt (a : Answer) : (s.noteAnswer a).retryCnt = s.retryCnt := rfl
@[simp] theorem State.noteAnswer_txRetryCnt (a : Answer) : (s.noteAnswer a).txRetryCnt = s.txRetryCnt := rfl
@[simp] theorem State.noteAnswer_errCount (a : Answer) : (s.noteAnswer a).errCount = s.errCount := rfl
@[simp] theorem State.noteAnswer_exit (a : Answer) : (s.noteAnswer a).exit = { s.exit with ioError := s.exit.ioError || a == .err } := rfl
@[simp] theorem State.noteAnswer_openPending (a : Answer) : (s.noteAnswer a).openPending = s.openPending := rfl
@[simp] theorem State.noteAnswer_closePending (a : Answer) : (s.noteAnswer a).closePending = s.closePending := rfl
@[simp] theorem State.noteAnswer_txBusy (a : Answer) : (s.noteAnswer a).txBusy = s.txBusy := rfl
@[simp] theorem State.noteAnswer_txFrame (a : Answer) : (s.noteAnswer a).txFrame = s.txFrame := rfl
@[simp] theorem State.noteAnswer_rxSync (a : Answer) : (s.noteAnswer a).rxSync = s.rxSync := rfl
@[simp] theorem State.noteAnswer_rxBuf (a : Answer) : (s.noteAnswer a).rxBuf = s.rxBuf := rfl
@[simp] theorem State.noteAnswer_rxOvf (a : Answer) : (s.noteAnswer a).rxOvf = s.rxOvf := rfl
@[simp] theorem State.noteAnswer_tSm (a : Answer) : (s.noteAnswer a).tSm = s.tSm := rfl
@[simp] theorem State.noteAnswer_tTx (a : Answer) : (s.noteAnswer a).tTx = s.tTx := rfl
@[simp] theorem State.noteAnswer_tOpen (a : Answer) : (s.noteAnswer a).tOpen = s.tOpen := rfl
@[simp] theorem State.noteAnswer_flt (a : Answer) : (s.noteAnswer a).flt = s.flt := rfl
@[simp] theorem State.noteAnswer_inbound (a : Answer) : (s.noteAnswer a).inbound = s.inbound := rfl
@[simp] theorem State.noteAnswer_hcWait (a : Answer) : (s.noteAnswer a).hcWait = s.hcWait := rfl
@[simp] theorem State.noteAnswer_out (a : Answer) : (s.noteAnswer a).out = s.out := rfl
@[simp] theorem State.noteAnswer_answers (a : Answer) : (s.noteAnswer a).answers = s.answers := rfl
@[simp] theorem State.noteAnswer_agenda (a : Answer) : (s.noteAnswer a).agenda = s.agenda := rfl
@[simp] theorem State.noteAnswer_freeCount (a : Answer) : (s.noteAnswer a).freeCount = s.freeCount := rfl

@[simp] theorem State.emit_cfg (f : Bytes) : (s.emit f).cfg = s.cfg := rfl
@[simp] theorem State.emit_state (f : Bytes) : (s.emit f).state = s.state := rfl
@[simp] theorem State.emit_linkOpen (f : Bytes) : (s.emit f).linkOpen = s.linkOpen := rfl
@[simp] theorem State.emit_seqNum (f : Bytes) : (s.emit f).seqNum = s.seqNum := rfl
@[simp] theorem State.emit_ackNum (f : Bytes) : (s.emit f).ackNum = s.ackNum := rfl
@[simp] theorem State.emit_retryCnt (f : Bytes) : (s.emit f).retryCnt = s.retryCnt := rfl
@[simp] theorem State.emit_txRetryCnt (f : Bytes) : (s.emit f).txRetryCnt = s.txRetryCnt := rfl
@[simp] theorem State.emit_errCount (f : Bytes) : (s.emit f).errCount = s.errCount := rfl
@[simp] theorem State.emit_exit (f : Bytes) : (s.emit f).exit = { s.exit with ioError := s.exit.ioError || s.nextAnswer == .err } := rfl
@[simp] theorem State.emit_openPending (f : Bytes) : (s.emit f).openPending = s.openPending := rfl
@[simp] theorem State.emit_closePending (f : Bytes) : (s.emit f).closePending = s.closePending := rfl
@[simp] theorem State.emit_txBusy (f : Bytes) : (s.emit f).txBusy = s.txBusy := rfl
@[simp] theorem State.emit_txFrame (f : Bytes) : (s.emit f).txFrame = s.txFrame := rfl
@[simp] theorem State.emit_rxSync (f : Bytes) : (s.emit f).rxSync = s.rxSync := rfl
@[simp] theorem State.emit_rxBuf (f : Bytes) : (s.emit f).rxBuf = s.rxBuf := rfl
@[simp] theorem State.emit_rxOvf (f : Bytes) : (s.emit f).rxOvf = s.rxOvf := rfl
@[simp] theorem State.emit_tSm (f : Bytes) : (s.emit f).tSm = s.tSm := rfl
@[simp] theorem State.emit_tTx (f : Bytes) : (s.emit f).tTx = s.tTx := rfl
@[simp] theorem State.emit_tOpen (f : Bytes) : (s.emit f).tOpen = s.tOpen := rfl
@[simp] theorem State.emit_flt (f : Bytes) : (s.emit f).flt = s.flt := rfl
@[simp] theorem State.emit_inbound (f : Bytes) : (s.emit f).inbound = s.inbound := rfl
@[simp] theorem State.emit_hcWait (f : Bytes) : (s.emit f).hcWait = s.hcWait := rfl
@[simp] theorem State.emit_out (f : Bytes) : (s.emit f).out = s.out ++ [.tq (.tSend f) s.nextAnswer] := rfl
@[simp] theorem State.emit_answers (f : Bytes) : (s.emit f).answers = s.answers.tail := rfl
@[simp] theorem State.emit_agenda (f : Bytes) : (s.emit f).agenda = s.agenda := rfl
@[simp] theorem State.emit_freeCount (f : Bytes) : (s.emit f).freeCount = s.countAfterRequest := rfl

@[simp] theorem State.clearRx_cfg : (s.clearRx).cfg = s.cfg := rfl
@[simp] theorem State.clearRx_state : (s.clearRx).state = s.state := rfl
@[simp] theorem State.clearRx_linkOpen : (s.clearRx).linkOpen = s.linkOpen := rfl
@[simp] theorem State.clearRx_seqNum : (s.clearRx).seqNum = s.seqNum := rfl
@[simp] theorem State.clearRx_ackNum : (s.clearRx).ackNum = s.ackNum := rfl
@[simp] theorem State.clearRx_retryCnt : (s.clearRx).retryCnt = s.retryCnt := rfl
@[simp] theorem State.clearRx_txRetryCnt : (s.clearRx).txRetryCnt = s.txRetryCnt := rfl
@[simp] theorem State.clearRx_errCount : (s.clearRx).errCount = s.errCount := rfl
@[simp] theorem State.clearRx_exit : (s.clearRx).exit = s.exit := rfl
@[simp] theorem State.clearRx_openPending : (s.clearRx).openPending = s.openPending := rfl
@[simp] theorem State.clearRx_closePending : (s.clearRx).closePending = s.closePending := rfl
@[simp] theorem State.clearRx_txBusy : (s.clearRx).txBusy = s.txBusy := rfl
@[simp] theorem State.clearRx_txFrame : (s.clearRx).txFrame = s.txFrame := rfl
@[simp] theorem State.clearRx_rxSync : (s.clearRx).rxSync = false := rfl
@[simp] theorem State.clearRx_rxBuf : (s.clearRx).rxBuf = [] := rfl
@[simp] theorem State.clearRx_rxOvf : (s.clearRx).rxOvf = false := rfl
@[simp] theorem State.clearRx_tSm : (s.clearRx).tSm = s.tSm := rfl
@[simp] theorem State.clearRx_tTx : (s.clearRx).tTx = s.tTx := rfl
@[simp] theorem State.clearRx_tOpen : (s.clearRx).tOpen = s.tOpen := rfl
@[simp] theorem State.clearRx_flt : (s.clearRx).flt = s.flt := rfl
@[simp] theorem State.clearRx_inbound : (s.clearRx).inbound = s.inbound := rfl
@[simp] theorem State.clearRx_hcWait : (s.clearRx).hcWait = s.hcWait := rfl
@[simp] theorem State.clearRx_out : (s.clearRx).out = s.out := rfl
@[simp] theorem State.clearRx_answers : (s.clearRx).answers = s.answers := rfl
@[simp] theorem State.clearRx_agenda : (s.clearRx).agenda = s.agenda := rfl
@[simp] theorem State.clearRx_freeCount : (s.clearRx).freeCount = s.freeCount := rfl

@[simp] theorem State.countError_cfg (e : ResultCode) : (s.countError e).cfg = s.cfg := rfl
@[simp] theorem State.countError_state (e : ResultCode) : (s.countError e).state = s.state := rfl
@[simp] theorem State.countError_linkOpen (e : ResultCode) : (s.countError e).linkOpen = s.linkOpen := rfl
@[simp] theorem State.countError_seqNum (e : ResultCode) : (s.countError e).seqNum = s.seqNum := rfl
@[simp] theorem State.countError_ackNum (e : ResultCode) : (s.countError e).ackNum = s.ackNum := rfl
@[simp] theorem State.countError_retryCnt (e : ResultCode) : (s.countError e).retryCnt = s.retryCnt := rfl
@[simp] theorem State.countError_txRetryCnt (e : ResultCode) : (s.countError e).txRetryCnt = s.txRetryCnt := rfl
@[simp] theorem State.countError_errCount (e : ResultCode) : (s.countError e).errCount = s.errCount + 1 := rfl
@[simp] theorem State.countError_exit (e : ResultCode) : (s.countError e).exit = s.exit := rfl
@[simp] theorem State.countError_openPending (e : ResultCode) : (s.countError e).openPending = s.openPending := rfl
@[simp] theorem State.countError_closePending (e : ResultCode) : (s.countError e).closePending = s.closePending := rfl
@[simp] theorem State.countError_txBusy (e : ResultCode) : (s.countError e).txBusy = s.txBusy := rfl
@[simp] theorem State.countError_txFrame (e : ResultCode) : (s.countError e).txFrame = s.txFrame := rfl
@[simp] theorem State.countError_rxSync (e : ResultCode) : (s.countError e).rxSync = s.rxSync := rfl
@[simp] theorem State.countError_rxBuf (e : ResultCode) : (s.countError e).rxBuf = s.rxBuf := rfl
@[simp] theorem State.countError_rxOvf (e : ResultCode) : (s.countError e).rxOvf = s.rxOvf := rfl
@[simp] theorem State.countError_tSm (e : ResultCode) : (s.countError e).tSm = s.tSm := rfl
@[simp] theorem State.countError_tTx (e : ResultCode) : (s.countError e).tTx = s.tTx := rfl
@[simp] theorem State.countError_tOpen (e : ResultCode) : (s.countError e).tOpen = s.tOpen := rfl
@[simp] theorem State.countError_flt (e : ResultCode) : (s.countError e).flt = s.flt := rfl
@[simp] theorem State.countError_inbound (e : ResultCode) : (s.countError e).inbound = s.inbound := rfl
@[simp] theorem State.countError_hcWait (e : ResultCode) : (s.countError e).hcWait = s.hcWait := rfl
@[simp] theorem State.countError_out (e : ResultCode) : (s.countError e).out = s.out ++ [.up (.log (.decodeError e (s.errCount + 1)))] := rfl
@[simp] theorem State.countError_answers (e : ResultCode) : (s.countError e).answers = s.answers := rfl
@[simp] theorem State.countError_agenda (e : ResultCode) : (s.countError e).agenda = s.agenda := rfl
@[simp] theorem State.countError_freeCount (e : ResultCode) : (s.countError e).freeCount = s.freeCount := rfl

@[simp] theorem State.indicate_cfg (bs : Bytes) : (s.indicate bs).cfg = s.cfg := rfl
@[simp] theorem State.indicate_state (bs : Bytes) : (s.indicate bs).state = s.state := rfl
@[simp] theorem State.indicate_linkOpen (bs : Bytes) : (s.indicate bs).linkOpen = s.linkOpen := rfl
@[simp] theorem State.indicate_seqNum (bs : Bytes) : (s.indicate bs).seqNum = s.seqNum := rfl
@[simp] theorem State.indicate_ackNum (bs : Bytes) : (s.indicate bs).ackNum = s.ackNum := rfl
@[simp] theorem State.indicate_retryCnt (bs : Bytes) : (s.indicate bs).retryCnt = s.retryCnt := rfl
@[simp] theorem State.indicate_txRetryCnt (bs : Bytes) : (s.indicate bs).txRetryCnt = s.txRetryCnt := rfl
@[simp] theorem State.indicate_errCount (bs : Bytes) : (s.indicate bs).errCount = s.errCount := rfl
@[simp] theorem State.indicate_exit (bs : Bytes) : (s.indicate bs).exit = s.exit := rfl
@[simp] theorem State.indicate_openPending (bs : Bytes) : (s.indicate bs).openPending = s.openPending := rfl
@[simp] theorem State.indicate_closePending (bs : Bytes) : (s.indicate bs).closePending = s.closePending := rfl
@[simp] theorem State.indicate_txBusy (bs : Bytes) : (s.indicate bs).txBusy = s.txBusy := rfl
@[simp] theorem State.indicate_txFrame (bs : Bytes) : (s.indicate bs).txFrame = s.txFrame := rfl
@[simp] theorem State.indicate_rxSync (bs : Bytes) : (s.indicate bs).rxSync = s.rxSync := rfl
@[simp] theorem State.indicate_rxBuf (bs : Bytes) : (s.indicate bs).rxBuf = s.rxBuf := rfl
@[simp] theorem State.indicate_rxOvf (bs : Bytes) : (s.indicate bs).rxOvf = s.rxOvf := rfl
@[simp] theorem State.indicate_tSm (bs : Bytes) : (s.indicate bs).tSm = s.tSm := rfl
@[simp] theorem State.indicate_tTx (bs : Bytes) : (s.indicate bs).tTx = s.tTx := rfl
@[simp] theorem State.indicate_tOpen (bs : Bytes) : (s.indicate bs).tOpen = s.tOpen := rfl
@[simp] theorem State.indicate_flt (bs : Bytes) : (s.indicate bs).flt = s.flt := rfl
@[simp] theorem State.indicate_inbound (bs : Bytes) : (s.indicate bs).inbound = s.inbound ++ bs := rfl
@[simp] theorem State.indicate_hcWait (bs : Bytes) : (s.indicate bs).hcWait = s.hcWait := rfl
@[simp] theorem State.indicate_out (bs : Bytes) : (s.indicate bs).out = s.out := rfl
@[simp] theorem State.indicate_answers (bs : Bytes) : (s.indicate bs).answers = s.answers := rfl
@[simp] theorem State.indicate_agenda (bs : Bytes) : (s.indicate bs).agenda = s.agenda := rfl
@[simp] theorem State.indicate_freeCount (bs : Bytes) : (s.indicate bs).freeCount = s.freeCount := rfl

@[simp] theorem State.notePeerResponded_cfg : (s.notePeerResponded).cfg = s.cfg := rfl
@[simp] theorem State.notePeerResponded_state : (s.notePeerResponded).state = s.state := rfl
@[simp] theorem State.notePeerResponded_linkOpen : (s.notePeerResponded).linkOpen = s.linkOpen := rfl
@[simp] theorem State.notePeerResponded_seqNum : (s.notePeerResponded).seqNum = s.seqNum := rfl
@[simp] theorem State.notePeerResponded_ackNum : (s.notePeerResponded).ackNum = s.ackNum := rfl
@[simp] theorem State.notePeerResponded_retryCnt : (s.notePeerResponded).retryCnt = s.retryCnt := rfl
@[simp] theorem State.notePeerResponded_txRetryCnt : (s.notePeerResponded).txRetryCnt = s.txRetryCnt := rfl
@[simp] theorem State.notePeerResponded_errCount : (s.notePeerResponded).errCount = s.errCount := rfl
@[simp] theorem State.notePeerResponded_exit : (s.notePeerResponded).exit = { s.exit with peerResponded := true } := rfl
@[simp] theorem State.notePeerResponded_openPending : (s.notePeerResponded).openPending = s.openPending := rfl
@[simp] theorem State.notePeerResponded_closePending : (s.notePeerResponded).closePending = s.closePending := rfl
@[simp] theorem State.notePeerResponded_txBusy : (s.notePeerResponded).txBusy = s.txBusy := rfl
@[simp] theorem State.notePeerResponded_txFrame : (s.notePeerResponded).txFrame = s.txFrame := rfl
@[simp] theorem State.notePeerResponded_rxSync : (s.notePeerResponded).rxSync = s.rxSync := rfl
@[simp] theorem State.notePeerResponded_rxBuf : (s.notePeerResponded).rxBuf = s.rxBuf := rfl
@[simp] theorem State.notePeerResponded_rxOvf : (s.notePeerResponded).rxOvf = s.rxOvf := rfl
@[simp] theorem State.notePeerResponded_tSm : (s.notePeerResponded).tSm = s.tSm := rfl
@[simp] theorem State.notePeerResponded_tTx : (s.notePeerResponded).tTx = s.tTx := rfl
@[simp] theorem State.notePeerResponded_tOpen : (s.notePeerResponded).tOpen = s.tOpen := rfl
@[simp] theorem State.notePeerResponded_flt : (s.notePeerResponded).flt = s.flt := rfl
@[simp] theorem State.notePeerResponded_inbound : (s.notePeerResponded).inbound = s.inbound := rfl
@[simp] theorem State.notePeerResponded_hcWait : (s.notePeerResponded).hcWait = s.hcWait := rfl
@[simp] theorem State.notePeerResponded_out : (s.notePeerResponded).out = s.out := rfl
@[simp] theorem State.notePeerResponded_answers : (s.notePeerResponded).answers = s.answers := rfl
@[simp] theorem State.notePeerResponded_agenda : (s.notePeerResponded).agenda = s.agenda := rfl
@[simp] theorem State.notePeerResponded_freeCount : (s.notePeerResponded).freeCount = s.freeCount := rfl

@[simp] theorem State.onSyncActive_cfg : (s.onSyncActive).cfg = s.cfg := rfl
@[simp] theorem State.onSyncActive_state : (s.onSyncActive).state = s.state := rfl
@[simp] theorem State.onSyncActive_linkOpen : (s.onSyncActive).linkOpen = s.linkOpen := rfl
@[simp] theorem State.onSyncActive_seqNum : (s.onSyncActive).seqNum = s.seqNum := rfl
@[simp] theorem State.onSyncActive_ackNum : (s.onSyncActive).ackNum = s.ackNum := rfl
@[simp] theorem State.onSyncActive_retryCnt : (s.onSyncActive).retryCnt = s.retryCnt := rfl
@[simp] theorem State.onSyncActive_txRetryCnt : (s.onSyncActive).txRetryCnt = s.txRetryCnt := rfl
@[simp] theorem State.onSyncActive_errCount : (s.onSyncActive).errCount = s.errCount := rfl
@[simp] theorem State.onSyncActive_exit : (s.onSyncActive).exit = { s.exit with syncReceived := true } := rfl
@[simp] theorem State.onSyncActive_openPending : (s.onSyncActive).openPending = s.openPending := rfl
@[simp] theorem State.onSyncActive_closePending : (s.onSyncActive).closePending = s.closePending := rfl
@[simp] theorem State.onSyncActive_txBusy : (s.onSyncActive).txBusy = s.txBusy := rfl
@[simp] theorem State.onSyncActive_txFrame : (s.onSyncActive).txFrame = s.txFrame := rfl
@[simp] theorem State.onSyncActive_rxSync : (s.onSyncActive).rxSync = s.rxSync := rfl
@[simp] theorem State.onSyncActive_rxBuf : (s.onSyncActive).rxBuf = s.rxBuf := rfl
@[simp] theorem State.onSyncActive_rxOvf : (s.onSyncActive).rxOvf = s.rxOvf := rfl
@[simp] theorem State.onSyncActive_tSm : (s.onSyncActive).tSm = s.tSm := rfl
@[simp] theorem State.onSyncActive_tTx : (s.onSyncActive).tTx = s.tTx := rfl
@[simp] theorem State.onSyncActive_tOpen : (s.onSyncActive).tOpen = s.tOpen := rfl
@[simp] theorem State.onSyncActive_flt : (s.onSyncActive).flt = s.flt := rfl
@[simp] theorem State.onSyncActive_inbound : (s.onSyncActive).inbound = s.inbound := rfl
@[simp] theorem State.onSyncActive_hcWait : (s.onSyncActive).hcWait = s.hcWait := rfl
@[simp] theorem State.onSyncActive_out : (s.onSyncActive).out = s.out := rfl
@[simp] theorem State.onSyncActive_answers : (s.onSyncActive).answers = s.answers := rfl
@[simp] theorem State.onSyncActive_agenda : (s.onSyncActive).agenda = s.agenda := rfl
@[simp] theorem State.onSyncActive_freeCount : (s.onSyncActive).freeCount = s.freeCount := rfl

@[simp] theorem State.releaseTx_cfg : s.releaseTx.cfg = s.cfg := rfl
@[simp] theorem State.releaseTx_state : s.releaseTx.state = s.state := rfl
@[simp] theorem State.releaseTx_linkOpen : s.releaseTx.linkOpen = s.linkOpen := rfl
@[simp] theorem State.releaseTx_seqNum : s.releaseTx.seqNum = s.seqNum := rfl
@[simp] theorem State.releaseTx_ackNum : s.releaseTx.ackNum = s.ackNum := rfl
@[simp] theorem State.releaseTx_retryCnt : s.releaseTx.retryCnt = s.retryCnt := rfl
@[simp] theorem State.releaseTx_txRetryCnt : s.releaseTx.txRetryCnt = s.txRetryCnt := rfl
@[simp] theorem State.releaseTx_errCount : s.releaseTx.errCount = s.errCount := rfl
@[simp] theorem State.releaseTx_exit : s.releaseTx.exit = s.exit := rfl
@[simp] theorem State.releaseTx_openPending : s.releaseTx.openPending = s.openPending := rfl
@[simp] theorem State.releaseTx_closePending : s.releaseTx.closePending = s.closePending := rfl
@[simp] theorem State.releaseTx_txBusy : s.releaseTx.txBusy = false := rfl
@[simp] theorem State.releaseTx_txFrame : s.releaseTx.txFrame = Config.freeFrame s.freeCount := rfl
@[simp] theorem State.releaseTx_rxSync : s.releaseTx.rxSync = s.rxSync := rfl
@[simp] theorem State.releaseTx_rxBuf : s.releaseTx.rxBuf = s.rxBuf := rfl
@[simp] theorem State.releaseTx_rxOvf : s.releaseTx.rxOvf = s.rxOvf := rfl
@[simp] theorem State.releaseTx_tSm : s.releaseTx.tSm = s.tSm := rfl
@[simp] theorem State.releaseTx_tTx : s.releaseTx.tTx = s.tTx := rfl
@[simp] theorem State.releaseTx_tOpen : s.releaseTx.tOpen = s.tOpen := rfl
@[simp] theorem State.releaseTx_flt : s.releaseTx.flt = s.flt := rfl
@[simp] theorem State.releaseTx_inbound : s.releaseTx.inbound = s.inbound := rfl
@[simp] theorem State.releaseTx_hcWait : s.releaseTx.hcWait = s.hcWait := rfl
@[simp] theorem State.releaseTx_out : s.releaseTx.out = s.out := rfl
@[simp] theorem State.releaseTx_answers : s.releaseTx.answers = s.answers := rfl
@[simp] theorem State.releaseTx_agenda : s.releaseTx.agenda = s.agenda := rfl
@[simp] theorem State.releaseTx_freeCount : s.releaseTx.freeCount = s.freeCount + 1 := rfl

@[simp] theorem State.endSend_cfg (r : ResultCode) : (s.endSend r).cfg = s.cfg := rfl
@[simp] theorem State.endSend_state (r : ResultCode) : (s.endSend r).state = s.state := rfl
@[simp] theorem State.endSend_linkOpen (r : ResultCode) : (s.endSend r).linkOpen = s.linkOpen := rfl
@[simp] theorem State.endSend_seqNum (r : ResultCode) : (s.endSend r).seqNum = s.seqNum := rfl
@[simp] theorem State.endSend_ackNum (r : ResultCode) : (s.endSend r).ackNum = s.ackNum := rfl
@[simp] theorem State.endSend_retryCnt (r : ResultCode) : (s.endSend r).retryCnt = s.retryCnt := rfl
@[simp] theorem State.endSend_txRetryCnt (r : ResultCode) : (s.endSend r).txRetryCnt = s.txRetryCnt := rfl
@[simp] theorem State.endSend_errCount (r : ResultCode) : (s.endSend r).errCount = s.errCount := rfl
@[simp] theorem State.endSend_exit (r : ResultCode) : (s.endSend r).exit = s.exit := rfl
@[simp] theorem State.endSend_openPending (r : ResultCode) : (s.endSend r).openPending = s.openPending := rfl
@[simp] theorem State.endSend_closePending (r : ResultCode) : (s.endSend r).closePending = s.closePending := rfl
@[simp] theorem State.endSend_txBusy (r : ResultCode) : (s.endSend r).txBusy = false := rfl
@[simp] theorem State.endSend_txFrame (r : ResultCode) : (s.endSend r).txFrame = Config.freeFrame s.freeCount := rfl
@[simp] theorem State.endSend_rxSync (r : ResultCode) : (s.endSend r).rxSync = s.rxSync := rfl
@[simp] theorem State.endSend_rxBuf (r : ResultCode) : (s.endSend r).rxBuf = s.rxBuf := rfl
@[simp] theorem State.endSend_rxOvf (r : ResultCode) : (s.endSend r).rxOvf = s.rxOvf := rfl
@[simp] theorem State.endSend_tSm (r : ResultCode) : (s.endSend r).tSm = s.tSm := rfl
@[simp] theorem State.endSend_tTx (r : ResultCode) : (s.endSend r).tTx = ⟨false, Config.freeRem (s.freeCount + 1)⟩ := rfl
@[simp] theorem State.endSend_tOpen (r : ResultCode) : (s.endSend r).tOpen = s.tOpen := rfl
@[simp] theorem State.endSend_flt (r : ResultCode) : (s.endSend r).flt = s.flt := rfl
@[simp] theorem State.endSend_inbound (r : ResultCode) : (s.endSend r).inbound = s.inbound := rfl
@[simp] theorem State.endSend_hcWait (r : ResultCode) : (s.endSend r).hcWait = s.hcWait := rfl
@[simp] theorem State.endSend_out (r : ResultCode) : (s.endSend r).out = s.out ++ [.hr .send r] := rfl
@[simp] theorem State.endSend_answers (r : ResultCode) : (s.endSend r).answers = s.answers := rfl
@[simp] theorem State.endSend_agenda (r : ResultCode) : (s.endSend r).agenda = s.agenda := rfl
@[simp] theorem State.endSend_freeCount (r : ResultCode) : (s.endSend r).freeCount = s.freeCount + 2 := rfl

@[simp] theorem State.onSyncRsp_eq : s.onSyncRsp = s.notePeerResponded := rfl
@[simp] theorem State.onConfigRsp_eq : s.onConfigRsp = s.notePeerResponded := rfl
@[simp] theorem State.onSync_eq : s.onSync = s.emit (syncRspFrameOf s.cfg) := rfl
@[simp] theorem State.onConfig_eq : s.onConfig = s.emit (configRspFrameOf s.cfg) := rfl
@[simp] theorem State.dispatchDataUnrel_eq : s.dispatchDataUnrel = s := rfl
@[simp] theorem State.dispatchReset_eq : s.dispatchReset = s := rfl
@[simp] theorem State.dispatchOther_eq : s.dispatchOther = s := rfl

end

end Sys2Proof.Machine
end

