-- ==== Sys2Proof/Machine/Script.lean ====
section
/-! DEFINITION. The stimulus notation of R112 and its eager scheduling convention: one run among the many the block admits
(log 21); and the final states of a run (R50; log 26). `exec` and `step` do not use them. -/

namespace Sys2Proof.Machine

/-- A stimulus line (R112). -/
inductive ScriptLine where
  /-- `OPEN`. -/
  | openLink
  /-- `CLOSE`. -/
  | closeLink
  /-- `SEND b..`. -/
  | send (p : Bytes)
  /-- `RX b..`. -/
  | rx (bs : Bytes)
  /-- `RXF b..`: RX of FRAME.ENCODE. -/
  | rxf (p : Bytes)
  /-- `RXP payload seq ack rel type`: RXF of PKT.ENCODE with integrity 0. -/
  | rxp (p : Bytes) (seq ack : Byte) (reliable : Bool) (type : BitVec 4)
  /-- `TSTAT code`: `is_io_error` of the parameters classifies the code. -/
  | tstat (code : BitVec 32)
  /-- `TLOG`. -/
  | tlog
  /-- `TICK n`. -/
  | tick (n : Nat)
  /-- `WAIT ms` = `TICK ticks(ms)`. -/
  | wait (ms : Nat)
  /-- `XPT OK|ERR`. -/
  | xpt (a : Answer)
deriving DecidableEq, Repr

/-- The step of the sequencer or of the transmit engine that is enabled first in the order of R112. -/
def State.enabledStep (s : State) : Option Instr :=
  if s.canSeqAbort then some .seqAbort
  else if s.canSeqStart then some .seqStart
  else if s.canSeqReset then some .seqReset
  else if s.canSeqUninitOk then some .seqUninitOk
  else if s.canSeqUninitNr then some .seqUninitNr
  else if s.canSeqInitOk then some .seqInitOk
  else if s.canSeqInitNr then some .seqInitNr
  else if s.canSeqActive then some .seqActive
  else if s.canCloseDone then some .closeDone
  else if s.canTxAbort then some .txAbort
  else none

/-- The timer expiry that is enabled first in the order of R112. -/
def State.dueExpiry (s : State) : Option Instr :=
  if s.tSm.expired then some .tSmExpire
  else if s.tTx.expired then some .tTxExpire
  else if s.tOpen.expired then some .tOpenExpire
  else none

/-- Nothing is presented to the block, unread or waiting, no timer runs, and no step of the block is enabled. -/
def State.atRest (s : State) : Bool :=
  s.agenda.isEmpty && s.inbound.isEmpty && s.hcWait.isEmpty && !s.tSm.armed && !s.tTx.armed && !s.tOpen.armed
    && s.enabledStep.isNone

/-- A final state, where a run may come to its end: the block is at rest (log 26) and not faulted. A faulted state is never final
(R50). -/
def State.final (s : State) : Bool := s.atRest && !s.faulted

/-- Fire one operation with a transport that answers `a`. -/
def State.fireWith (a : Answer) (i : Instr) (s : State) : State :=
  match exec i { s with answers := [a] } with
  | .next t => { t with answers := [] }
  | .fault _ => s
  | .refused _ => s

/-- A script under way: the state and the answer the transport gives until the next XPT line. -/
structure ScriptRun where
  state : State
  answer : Answer
deriving DecidableEq, Repr

/-- Fire one operation with the current transport answer. -/
def ScriptRun.fire (i : Instr) (r : ScriptRun) : ScriptRun := { r with state := r.state.fireWith r.answer i }

/-- Accept the oldest stalled SEND (R112, R213). -/
def ScriptRun.acceptStalled (r : ScriptRun) : ScriptRun :=
  { r with state := { { r.state with answers := [r.answer] }.presentStalled with answers := [] } }

/-- The next enabled step in the order of R112: SEQ, then TX.ABORT, then a stalled SEND, then the timer expiries. -/
def ScriptRun.next? (r : ScriptRun) : Option ScriptRun :=
  match r.state.enabledStep with
  | some i => some (r.fire i)
  | none =>
    if !r.state.txBusy && !r.state.hcWait.isEmpty then some r.acceptStalled
    else r.state.dueExpiry.map fun i => r.fire i

/-- Fire every enabled step until none is enabled, at most `fuel` of them. -/
def ScriptRun.settle : Nat → ScriptRun → ScriptRun
  | 0, r => r
  | fuel + 1, r =>
    match r.next? with
    | none => r
    | some r' => ScriptRun.settle fuel r'

/-- A bound on the steps that are enabled one after another without a TICK or a stimulus. -/
def ScriptRun.fuel (r : ScriptRun) : Nat := 32 + r.state.hcWait.length

/-- `n` RX.BYTE steps. -/
def ScriptRun.rxBytes : Nat → ScriptRun → ScriptRun
  | 0, r => r
  | n + 1, r => ScriptRun.rxBytes n (r.fire .rxByte)

/-- `n` TICK steps, each preceded by every enabled step. -/
def ScriptRun.ticks : Nat → ScriptRun → ScriptRun
  | 0, r => r
  | n + 1, r => ScriptRun.ticks n ((r.settle r.fuel).fire .tick)

/-- `RX b..`: one T_DATA and the RX.BYTE steps that consume the stream. -/
def ScriptRun.receive (bs : Bytes) (r : ScriptRun) : ScriptRun :=
  (r.fire (.tData bs)).rxBytes (r.state.inbound ++ bs).length

/-- One stimulus line, before the enabled steps fire. -/
def ScriptRun.stimulus (l : ScriptLine) (r : ScriptRun) : ScriptRun :=
  match l with
  | .openLink => r.fire .hostOpen
  | .closeLink => r.fire .hostClose
  | .send p => r.fire (.hostSend p)
  | .rx bs => r.receive bs
  | .rxf p => r.receive (encodeFrame r.state.cfg p)
  | .rxp p seq ack reliable type =>
    match encodePkt r.state.cfg p seq ack reliable false type with
    | .packet k => r.receive (encodeFrame r.state.cfg k)
    | .ackWithoutNumber => r
    | .invalidLength => r
  | .tstat code => r.fire (.tStatus code [])
  | .tlog => r.fire (.tLog 0 [])
  | .tick n => r.ticks n
  | .wait ms => r.ticks (Machine.ticks r.state.cfg ms)
  | .xpt a => { r with answer := a }

/-- One stimulus line, then every enabled step until none is enabled (R112). -/
def ScriptRun.line (l : ScriptLine) (r : ScriptRun) : ScriptRun :=
  let r' := r.stimulus l
  r'.settle r'.fuel

/-- A whole script (R112), from a state, with a transport that answers OK until an XPT line. -/
def runScript (s : State) (script : List ScriptLine) : State :=
  (script.foldl (fun (r : ScriptRun) l => r.line l) (ScriptRun.mk s .ok)).state

end Sys2Proof.Machine
end

