-- ==== Sys2Proof/Machine/Joined.lean ====
section
/-! DEFINITION. Two blocks joined by a transport that loses nothing, answers every request OK and adds no delay (R202, R231), each
scheduled as R112 says: one run among the many the blocks admit (log 25). `exec` and `step` do not use it. -/

namespace Sys2Proof.Machine

/-- Two blocks and the ticks since the OPEN of the first. -/
structure Joined where
  a : State
  b : State
  time : Nat
deriving DecidableEq, Repr

/-- The bytes of a message that reach the other block: those of a T_SEND answered OK. -/
def wireBytes (m : OutMsg) : Bytes :=
  match m with
  | .tq (.tSend f) .ok => f
  | .tq (.tSend _) .err => []
  | .tq .tOpen _ => []
  | .tq .tClose _ => []
  | .hr _ _ => []
  | .up _ => []
  | .fn _ => []

/-- What a block has put on the wire between two of its states. -/
def sentBytes (s t : State) : Bytes := (t.out.drop s.out.length).flatMap wireBytes

/-- RX.BYTE for everything on the inbound stream, with a transport that answers OK. -/
def State.consumeInbound (s : State) : State :=
  { State.consumeAll s.inbound { s with answers := List.replicate s.inbound.length .ok } with answers := [] }

/-- The step or the expiry that a block fires next. -/
def State.readyStep (s : State) : Option Instr :=
  match s.enabledStep with
  | some i => some i
  | none => s.dueExpiry

/-- The first block moves to `t`, and what it sends arrives at the second. -/
def Joined.moveA (t : State) (j : Joined) : Joined := { j with a := t, b := j.b.indicate (sentBytes j.a t) }

/-- The second block moves to `t`, and what it sends arrives at the first. -/
def Joined.moveB (t : State) (j : Joined) : Joined := { j with b := t, a := j.a.indicate (sentBytes j.b t) }

/-- One move: bytes that have arrived, then the OPEN of the second block at its time, then the enabled steps of the second block and of
the first, and TICK for both when nothing else is left. -/
def Joined.next (skew : Nat) (j : Joined) : Joined :=
  if !j.b.inbound.isEmpty then j.moveB j.b.consumeInbound
  else if !j.a.inbound.isEmpty then j.moveA j.a.consumeInbound
  else if j.time == skew && !j.b.linkOpen then j.moveB (j.b.fireWith .ok .hostOpen)
  else
    match j.b.readyStep with
    | some i => j.moveB (j.b.fireWith .ok i)
    | none =>
      match j.a.readyStep with
      | some i => j.moveA (j.a.fireWith .ok i)
      | none => { a := j.a.fireWith .ok .tick, b := j.b.fireWith .ok .tick, time := j.time + 1 }

/-- The first `n` moves. -/
def Joined.run (skew : Nat) : Nat → Joined → Joined
  | 0, j => j
  | n + 1, j => Joined.run skew n (j.next skew)

/-- The OPEN of the first block, answered OK; the second block has not been opened. -/
def Joined.start (a b : State) : Joined := { a := a.fireWith .ok .hostOpen, b := b, time := 0 }

end Sys2Proof.Machine
end

