-- ==== Sys2Proof/Safety.lean ====
section
/-! DEFINITION. What counts as a safe run: the invariants of R52 and of the buffers, the states no theorem of the block need speak
about (R247), the steps proper of the transition system (R16), and the transition graph (R170). -/

namespace Sys2Proof.Safety

open Machine

/-! ### Invariants (R52) -/

/-- RESET, UNINITIALIZED or INITIALIZED: where `t_sm` may run (R52 (d)). -/
def timedState (st : ConnState) : Bool := st == .reset || st == .uninitialized || st == .initialized

/-- START, RESET, UNINITIALIZED or INITIALIZED: where an OPEN may be pending (R52 (e)). -/
def openingState (st : ConnState) : Bool := st == .start || timedState st

/-- R52 (c): a SEND in flight has an open link and a running timer, or its abort is enabled. -/
abbrev sendTimed (s : State) : Prop :=
  s.txBusy = true → (s.linkOpen = true ∧ s.tTx.armed = true) ∨ s.canTxAbort = true

/-- R52 (d). -/
abbrev smTimed (s : State) : Prop := s.tSm.armed = true → timedState s.state = true

/-- R52 (e). -/
abbrev openPendingOk (s : State) : Prop := s.openPending = true → s.linkOpen = true ∧ openingState s.state = true

/-- R52 (f). -/
abbrev closedQuiet (s : State) : Prop :=
  s.linkOpen = false → isTerminal s.state = true ∧ s.txBusy = false ∧ s.openPending = false ∧ s.closePending = false
    ∧ s.tSm.armed = false ∧ s.tTx.armed = false ∧ s.tOpen.armed = false

/-- R52 (g): a per-state flag is 0 outside the states it is relevant in (R32 to R38). -/
abbrev flagsRelevant (s : State) : Prop :=
  (s.exit.opened = true → s.state = .start)
    ∧ (s.exit.resetSent = true → s.state = .reset) ∧ (s.exit.resetWaitDone = true → s.state = .reset)
    ∧ (s.exit.peerResponded = true → s.state = .uninitialized ∨ s.state = .initialized)
    ∧ (s.exit.retryExhausted = true → s.state = .uninitialized ∨ s.state = .initialized)
    ∧ (s.exit.syncReceived = true → s.state = .active) ∧ (s.exit.syncError = true → s.state = .active)

/-- The receive buffer holds no delimiter, stays within RX_BUF_MAX, and is empty until a delimiter has been seen; a closed link
has not seen one (R42, R138, R174). -/
abbrev rxBufferOk (s : State) : Prop :=
  s.cfg.delim ∉ s.rxBuf ∧ s.rxBuf.length ≤ s.cfg.rxBufMax ∧ (s.rxSync = false → s.rxBuf = [] ∧ s.rxOvf = false)
    ∧ (s.linkOpen = false → s.rxSync = false)

/-- The retry counters stay within the budget they were loaded from (R28, R29). -/
abbrev countersOk (s : State) : Prop := s.retryCnt ≤ fullBudget s.cfg ∧ s.txRetryCnt ≤ fullBudget s.cfg

/-- The frame of a SEND in flight is DATA_FRAME of a payload of at most 4095 bytes (R41, R213). -/
def txFrameOk (s : State) : Prop :=
  s.txBusy = true → ∃ p sq a, p.length ≤ Config.maxPayload ∧ s.txFrame = dataFrameOf s.cfg p sq a

/-- The invariant of the block: R52 (c) to (g), the buffers and the counters. R52 (a) and (b) hold by the types. -/
structure Inv (s : State) : Prop where
  send : sendTimed s
  timer : smTimed s
  pending : openPendingOk s
  closed : closedQuiet s
  flags : flagsRelevant s
  rxBuffer : rxBufferOk s
  counters : countersOk s
  frame : txFrameOk s

/-! ### Which states and steps the claims are about -/

/-- A state with a fault bit set is outside the set of states a theorem need speak about (R50, R247). -/
def notFaulted (s : State) : Prop := s.faulted = false

/-- The steps that the block's own agents fire: RXP, SEQ, TXE and TMR (R16). -/
def ownSteps : List Instr :=
  [.rxByte, .seqAbort, .seqStart, .seqReset, .seqUninitOk, .seqUninitNr, .seqInitOk, .seqInitNr, .seqActive, .closeDone, .txAbort,
    .tSmExpire, .tTxExpire, .tOpenExpire, .tick]

/-- The steps proper of the transition system (R16): everything but the rows of the opcode table that are pieces of a step
(tokens, kinds, templates, RX.FRAME, the handlers). -/
def isStep (i : Instr) : Bool :=
  match i with
  | .delim => false
  | .escDelimToken => false
  | .escEscToken => false
  | .literal _ => false
  | .escInvalid _ => false
  | .kAck _ => false
  | .kData _ => false
  | .kDataUnrel _ => false
  | .kReset _ => false
  | .kSync _ => false
  | .kSyncRsp _ => false
  | .kConfig _ => false
  | .kConfigRsp _ => false
  | .kOther _ => false
  | .resetFrame => false
  | .syncFrame => false
  | .syncRspFrame => false
  | .configFrame => false
  | .configRspFrame => false
  | .ackFrame _ => false
  | .dataFrame _ _ _ => false
  | .frameEncode _ => true
  | .frameDecode _ => true
  | .pktEncode _ _ _ _ _ _ => true
  | .pktDecode _ => true
  | .seqInc _ => true
  | .hostOpen => true
  | .hostClose => true
  | .hostSend _ => true
  | .tData _ => true
  | .tStatus _ _ => true
  | .tLog _ _ => true
  | .rxByte => true
  | .rxFrame _ _ => false
  | .rxSyncRsp => false
  | .rxSync => false
  | .rxSyncActive => false
  | .rxConfigRsp => false
  | .rxConfig => false
  | .rxAck _ => false
  | .rxData _ => false
  | .seqAbort => true
  | .seqStart => true
  | .seqReset => true
  | .seqUninitOk => true
  | .seqUninitNr => true
  | .seqInitOk => true
  | .seqInitNr => true
  | .seqActive => true
  | .closeDone => true
  | .txAbort => true
  | .tSmExpire => true
  | .tTxExpire => true
  | .tOpenExpire => true
  | .tick => true
  | .hwReset => true

/-- The transitions of `state` with their causes (R170), one disjunct for each row of the table. Hardware reset is outside the table
(R281). -/
def transition (s : State) (c : Option Cause) (dest : ConnState) : Prop :=
  (s.linkOpen = false ∧ c = none ∧ dest = .start)
    ∨ (isTerminal s.state = false ∧ s.exit.ioError = true ∧ c = some .ioError ∧ dest = .failed)
    ∨ (isTerminal s.state = false ∧ s.exit.close = true ∧ s.exit.ioError = false ∧ c = some .close ∧ dest = .closed)
    ∨ (s.exit.ioError = false ∧ s.exit.close = false ∧
        ((s.state = .start ∧ s.exit.opened = true ∧ c = some .opened ∧ dest = .reset)
          ∨ (s.state = .reset ∧ s.exit.resetSent = true ∧ s.exit.resetWaitDone = true ∧ c = some .resetDone
            ∧ dest = .uninitialized)
          ∨ (s.state = .uninitialized ∧ s.exit.peerResponded = true ∧ c = some .peerResponded ∧ dest = .initialized)
          ∨ (s.state = .uninitialized ∧ s.exit.retryExhausted = true ∧ s.exit.peerResponded = false
            ∧ c = some .retryExhausted ∧ dest = .noResponse)
          ∨ (s.state = .initialized ∧ s.exit.peerResponded = true ∧ c = some .peerResponded ∧ dest = .active)
          ∨ (s.state = .initialized ∧ s.exit.retryExhausted = true ∧ s.exit.peerResponded = false
            ∧ c = some .retryExhausted ∧ dest = .noResponse)
          ∨ (s.state = .active ∧ s.exit.syncReceived = true ∧ c = some .peerResync ∧ dest = .reset)
          ∨ (s.state = .active ∧ s.exit.syncError = true ∧ s.exit.syncReceived = false ∧ c = some .ackMismatch
            ∧ dest = .reset)))

/-- A SEND in flight in `t` was so in `s`, with the same frame, retry counter and timer (R41, R229). -/
abbrev sendKept (s t : State) : Prop :=
  t.txBusy = true → s.txBusy = true ∧ t.txFrame = s.txFrame ∧ t.txRetryCnt = s.txRetryCnt ∧ t.tTx = s.tTx

/-- The STATUS indications among messages, in their order. -/
def statuses (l : List OutMsg) : List (ConnState × Cause) := l.filterMap fun m =>
  match m with
  | .up (.status st c) => some (st, c)
  | .up (.data _) => none
  | .up (.log _) => none
  | .hr _ _ => none
  | .tq _ _ => none
  | .fn _ => none

/-- `a` is an answer the transport may give to the next request: the environment's, where it has listed one (R262 (d)). -/
def mayAnswer (s : State) (a : Answer) : Prop := ∀ x, s.answers.head? = some x → a = x

/-- The number of results of accepted OPEN commands among messages: every result but `InvalidState` (R172). -/
def openResults (l : List OutMsg) : Nat := l.countP fun m =>
  match m with
  | .hr .opn r => r != .invalidState
  | .hr .close _ => false
  | .hr .send _ => false
  | .up _ => false
  | .tq _ _ => false
  | .fn _ => false

/-- The number of SEND results among messages (R212). -/
def sendResults (l : List OutMsg) : Nat := l.countP fun m =>
  match m with
  | .hr .send _ => true
  | .hr .opn _ => false
  | .hr .close _ => false
  | .up _ => false
  | .tq _ _ => false
  | .fn _ => false

/-- A bit as a number. -/
def count (b : Bool) : Nat := if b then 1 else 0

/-- Run operations one after another, stopping at the first that gives no next state. -/
def runAll : List Instr → State → Option State
  | [], s => some s
  | i :: rest, s =>
    match exec i s with
    | .next t => runAll rest t
    | .fault _ => none
    | .refused _ => none

end Sys2Proof.Safety
end

