-- ==== Sys2Proof/Certificates/Slice0/Obligations.lean ====
section
/-! DEFINITION. The statements for the provers. `mayAnswer s a` stands for the transport's free choice (R262 (d)); a number `n`, a
`rem` or a `tx_frame` bound by "there is" is a free value or its counter, on which no statement rests (log 5, log 6). -/

open Sys2Proof Sys2Proof.Machine Sys2Proof.Safety

/-! ### Frame codec -/

/-- R134: both directions of the round-trip law, for every choice of distinct framing bytes. -/
def Obligations.FrameCodecRoundTrip : Prop :=
  ∀ (c : Cfg) (p f : Bytes), framingOk c = true →
    decodeFrame c (encodeFrame c p) = .ok p ∧ (decodeFrame c f = .ok p → encodeFrame c p = f)

/-- R135: the length of a frame, its bounds, the longest frame of a packet, and where its delimiters are. -/
def Obligations.FrameSizes : Prop :=
  ∀ (c : Cfg) (p : Bytes), framingOk c = true →
    (encodeFrame c p).length = 2 + p.length + p.countP (fun b => b == c.delim || b == c.esc)
      ∧ p.length + 2 ≤ (encodeFrame c p).length ∧ (encodeFrame c p).length ≤ 2 * p.length + 2
      ∧ (p.length ≤ 4 + 4095 + c.integrityLen →
          (encodeFrame c p).length ≤ 2 * (4 + 4095 + c.integrityLen) + 2)
      ∧ ∃ body, encodeFrame c p = [c.delim] ++ body ++ [c.delim] ∧ c.delim ∉ body

/-- R133: FRAME.DECODE fails in exactly the listed cases, and with `MalformedFrame` alone. -/
def Obligations.FrameDecodeFailures : Prop :=
  ∀ (c : Cfg) (f : Bytes), framingOk c = true →
    (decodeFrame c f = .error .malformedFrame ↔
      f.length < 2 ∨ f.head? ≠ some c.delim ∨ f.getLast? ≠ some c.delim
        ∨ c.delim ∈ (f.drop 1).dropLast
        ∨ (∃ p, (f.drop 1).dropLast = stuff c p ++ [c.esc])
        ∨ ∃ p x rest, (f.drop 1).dropLast = stuff c p ++ c.esc :: x :: rest ∧ x ≠ c.escDelim ∧ x ≠ c.escEsc)
      ∧ ∀ e, decodeFrame c f = .error e → e = .malformedFrame

/-! ### Packet codec -/

/-- R150, R151: the bytes PKT.ENCODE builds, and the checks before it builds any. -/
def Obligations.PacketEncodeBytes : Prop :=
  ∀ (c : Cfg) (p : Bytes) (seq ack : Byte) (reliable integrity : Bool) (type : BitVec 4),
    (type = 0 ∧ ack = 0xFF → encodePkt c p seq ack reliable integrity type = .ackWithoutNumber)
      ∧ (¬ (type = 0 ∧ ack = 0xFF) → 4095 < p.length →
          encodePkt c p seq ack reliable integrity type = .invalidLength)
      ∧ (¬ (type = 0 ∧ ack = 0xFF) → p.length ≤ 4095 →
          ∃ (b0 b1 b2 : Byte) (k : Bytes), encodePkt c p seq ack reliable integrity type = .packet k
            ∧ b0.toNat = seq.toNat % 8 + 8 * (ack.toNat % 8) + 64 * count integrity + 128 * count reliable
            ∧ b1.toNat = type.toNat + 16 * (p.length % 16)
            ∧ b2.toNat = p.length / 16
            ∧ k = [b0, b1, b2, hdrChecksum c b0 b1 b2] ++ p
              ++ (if integrity then integrityFn c ([b0, b1, b2, hdrChecksum c b0 b1 b2] ++ p) else [])
            ∧ k.length = 4 + p.length + (if integrity then c.integrityLen else 0))

/-- R156: decoding an encoded packet gives back every argument, for every checksum and integrity function. -/
def Obligations.PacketCodecRoundTrip : Prop :=
  ∀ (c : Cfg) (p : Bytes) (seq ack : BitVec 3) (reliable integrity : Bool) (type : BitVec 4), p.length ≤ 4095 →
    ∃ (b0 b1 b2 : Byte) (tail : Bytes) (d : Packet),
      encodePkt c p (seq.setWidth 8) (ack.setWidth 8) reliable integrity type
          = .packet (b0 :: b1 :: b2 :: hdrChecksum c b0 b1 b2 :: tail)
        ∧ decodePkt c (b0 :: b1 :: b2 :: hdrChecksum c b0 b1 b2 :: tail) = .ok d
        ∧ d.payload = p ∧ d.seq = seq ∧ d.ack = ack ∧ d.integrityChecked = integrity
        ∧ d.payloadLength.toNat = p.length ∧ d.headerChecksum = hdrChecksum c b0 b1 b2
        ∧ d.reliable = reliable ∧ d.type = type

/-- R152, R153: the checks of PKT.DECODE in their order, and the record it returns, by the arithmetic of R94 and R99. -/
def Obligations.PacketDecodeChecks : Prop :=
  ∀ (c : Cfg),
    (∀ k : Bytes, k.length < 4 → decodePkt c k = .error .lengthMismatch)
      ∧ ∀ (b0 b1 b2 b3 : Byte) (rest : Bytes) (len t : Nat),
          len = b1.toNat / 16 + 16 * b2.toNat → t = (if b0.toNat / 64 % 2 = 1 then c.integrityLen else 0) →
          (b3 ≠ hdrChecksum c b0 b1 b2 →
            decodePkt c (b0 :: b1 :: b2 :: b3 :: rest) = .error .headerChecksumMismatch)
          ∧ (b3 = hdrChecksum c b0 b1 b2 → rest.length ≠ len + t →
              decodePkt c (b0 :: b1 :: b2 :: b3 :: rest) = .error .lengthMismatch)
          ∧ (b3 = hdrChecksum c b0 b1 b2 → rest.length = len + t → b0.toNat / 64 % 2 = 1 →
              rest.drop len ≠ integrityFn c (b0 :: b1 :: b2 :: b3 :: rest.take len) →
              decodePkt c (b0 :: b1 :: b2 :: b3 :: rest) = .error .payloadChecksumMismatch)
          ∧ (b3 = hdrChecksum c b0 b1 b2 → rest.length = len + t →
              (b0.toNat / 64 % 2 = 1 → rest.drop len = integrityFn c (b0 :: b1 :: b2 :: b3 :: rest.take len)) →
              ∃ d, decodePkt c (b0 :: b1 :: b2 :: b3 :: rest) = .ok d
                ∧ d.payload = rest.take len ∧ d.seq.toNat = b0.toNat % 8 ∧ d.ack.toNat = b0.toNat / 8 % 8
                ∧ count d.integrityChecked = b0.toNat / 64 % 2 ∧ d.payloadLength.toNat = len
                ∧ d.headerChecksum = b3 ∧ count d.reliable = b0.toNat / 128 ∧ d.type.toNat = b1.toNat % 16)

/-- R99, R152: what PKT.DECODE accepts is exactly what PKT.ENCODE builds from the record, and its declared length is the payload's. -/
def Obligations.PacketDecodeAcceptsOnlyEncodings : Prop :=
  ∀ (c : Cfg) (k : Bytes) (d : Packet), decodePkt c k = .ok d →
    encodePkt c d.payload (d.seq.setWidth 8) (d.ack.setWidth 8) d.reliable d.integrityChecked d.type = .packet k
      ∧ d.payload.length = d.payloadLength.toNat

/-- R157: the packet survives framing. -/
def Obligations.PacketThroughFrame : Prop :=
  ∀ (c : Cfg) (p k : Bytes) (seq ack : BitVec 3) (reliable integrity : Bool) (type : BitVec 4),
    framingOk c = true →
    encodePkt c p (seq.setWidth 8) (ack.setWidth 8) reliable integrity type = .packet k →
    ∃ (b0 b1 b2 : Byte) (d : Packet),
      k.take 4 = [b0, b1, b2, hdrChecksum c b0 b1 b2]
        ∧ (decodeFrame c (encodeFrame c k)).bind (decodePkt c) = .ok d
        ∧ d.payload = p ∧ d.seq = seq ∧ d.ack = ack ∧ d.integrityChecked = integrity
        ∧ d.payloadLength.toNat = p.length ∧ d.headerChecksum = hdrChecksum c b0 b1 b2
        ∧ d.reliable = reliable ∧ d.type = type

/-- R158: with the default checksum function of R11 (which the spec marks as general knowledge) the four header bytes sum to 0, and
a header with any bytes changed is accepted exactly when the sum of its four bytes is the same modulo 256. -/
def Obligations.DefaultChecksumDetectsSumChanges : Prop :=
  ∀ (c : Cfg) (b0 b1 b2 x0 x1 x2 x3 : Byte), c.hdrChecksum = .sumToZero →
    let sum := fun a b c d : Byte => (a.toNat + b.toNat + c.toNat + d.toNat) % 256
    (hdrChecksum c b0 b1 b2).toNat = (256 - (b0.toNat + b1.toNat + b2.toNat) % 256) % 256
      ∧ sum b0 b1 b2 (hdrChecksum c b0 b1 b2) = 0
      ∧ (x3 = hdrChecksum c x0 x1 x2 ↔ sum x0 x1 x2 x3 = sum b0 b1 b2 (hdrChecksum c b0 b1 b2))

/-- R79 (a), R104, R105: every frame of a template decodes, to a packet of the template's own kind with the fields of its row. -/
def Obligations.TemplatesDecodeToTheirKinds : Prop :=
  ∀ (c : Cfg), cfgValid c = true →
    let sent := fun (f p : Bytes) (sq a : BitVec 3) (reliable : Bool) (type : BitVec 4) (k : PacketKind) =>
      ∃ d, (decodeFrame c f).bind (decodePkt c) = .ok d ∧ kind c d = k ∧ d.payload = p ∧ d.seq = sq ∧ d.ack = a
        ∧ d.reliable = reliable ∧ d.integrityChecked = c.txIntegrity ∧ d.type = type
    sent (resetFrameOf c) [] 0 0 false c.ptReset .reset
      ∧ sent (syncFrameOf c) [c.syncPat.first, c.syncPat.second] 0 0 false c.ptLinkControl .sync
      ∧ sent (syncRspFrameOf c) [c.syncRspPat.first, c.syncRspPat.second] 0 0 false c.ptLinkControl .syncRsp
      ∧ sent (configFrameOf c) [c.configPat.first, c.configPat.second, c.configField] 0 0 false c.ptLinkControl .config
      ∧ sent (configRspFrameOf c) [c.configRspPat.first, c.configRspPat.second, c.configField] 0 0 false c.ptLinkControl
          .configRsp
      ∧ (∀ a, sent (ackFrameOf c a) [] 0 a false 0 .ack)
      ∧ ∀ p sq a, p.length ≤ 4095 → sent (dataFrameOf c p sq a) p sq a true c.ptVendor .data

/-! ### Encoding and decoding of operations -/

/-- Decode and encode agree on every well-formed operation. The layouts of FN, TI and EVT are the model's (log 12). -/
def Obligations.DecodeOfEncode : Prop :=
  ∀ (c : Cfg) (i : Instr), cfgValid c = true → i.wf c = true → decode c (encode c i) = .ok i

/-- Every message that decodes is the encoding of one well-formed operation. The layouts of FN, TI and EVT are the model's (log 12). -/
def Obligations.EncodeOfDecode : Prop :=
  ∀ (c : Cfg) (m : Message) (i : Instr), cfgValid c = true → decode c m = .ok i → encode c i = m ∧ i.wf c = true

/-- Words written out from R90, R91, R94, R108, R111 decode to the operations they stand for, and the byte strings of R105 with the
default parameters (which the spec marks as general knowledge) are the frames of the templates. -/
def Obligations.SpecWordsDecode : Prop :=
  decode Cfg.default ⟨.slip, [0xC0]⟩ = .ok .delim
    ∧ decode Cfg.default ⟨.slip, [0xDB, 0xDC]⟩ = .ok .escDelimToken
    ∧ decode Cfg.default ⟨.slip, [0xDB, 0xDD]⟩ = .ok .escEscToken
    ∧ decode Cfg.default ⟨.slip, [0xDB, 0x01]⟩ = .ok (.escInvalid (some 0x01))
    ∧ decode Cfg.default ⟨.h5hdr, [0x80, 0x1E, 0x00, 0x62, 0xAA]⟩
        = .ok (.kData ⟨[0xAA], 0, 0, false, 1, 0x62, true, 14⟩)
    ∧ decode Cfg.default ⟨.txframe, [0xC0, 0x08, 0x00, 0x00, 0xF8, 0xC0]⟩ = .ok (.ackFrame 1)
    ∧ decode Cfg.default ⟨.hc, [0x03, 0xAA]⟩ = .ok (.hostSend [0xAA])
    ∧ decode Cfg.default ⟨.ti, [0x01, 0xC0]⟩ = .ok (.tData [0xC0])
    ∧ resetFrameOf Cfg.default = [0xC0, 0x00, 0x05, 0x00, 0xFB, 0xC0]
    ∧ syncFrameOf Cfg.default = [0xC0, 0x00, 0x2F, 0x00, 0xD1, 0x01, 0x7E, 0xC0]
    ∧ syncRspFrameOf Cfg.default = [0xC0, 0x00, 0x2F, 0x00, 0xD1, 0x02, 0x7D, 0xC0]
    ∧ configFrameOf Cfg.default = [0xC0, 0x00, 0x3F, 0x00, 0xC1, 0x03, 0xFC, 0x11, 0xC0]
    ∧ configRspFrameOf Cfg.default = [0xC0, 0x00, 0x3F, 0x00, 0xC1, 0x04, 0x7B, 0x11, 0xC0]
    ∧ ackFrameOf Cfg.default 1 = [0xC0, 0x08, 0x00, 0x00, 0xF8, 0xC0]
    ∧ dataFrameOf Cfg.default [0xAA] 0 0 = [0xC0, 0x80, 0x1E, 0x00, 0x62, 0xAA, 0xC0]

/-- A step runs the decoded operation (R16, R70); with nothing presented the block waits (R281); parameters that break R293 stop it
(U31; log 4). That the environment's choices stand in an agenda is the model's (log 1). -/
def Obligations.StepRunsDecodedOperation : Prop :=
  ∀ s : State,
    (∀ (m : Message) (rest : List Message) (i : Instr),
        cfgValid s.cfg = true → s.agenda = m :: rest → decode s.cfg m = .ok i →
        step s = exec i { s with agenda := rest })
      ∧ (cfgValid s.cfg = true → s.agenda = [] → step s = .next s)
      ∧ (cfgValid s.cfg = false → step s = .fault .invalidConfiguration)

/-! ### The function ports -/

/-- R21, R131, R133, R152, R155: each codec function answers on its port and changes no register. That SEQ.INC answers there too is
the model's (log 24). -/
def Obligations.CodecPortsAnswer : Prop :=
  ∀ (s : State) (p f k : Bytes) (n : BitVec 3),
    exec (.frameEncode p) s
        = .next { s with out := s.out ++ [.fn (.frame ([s.cfg.delim] ++ stuff s.cfg p ++ [s.cfg.delim]))] }
      ∧ exec (.frameDecode f) s = .next { s with out := s.out ++ [.fn (.unframed (decodeFrame s.cfg f))] }
      ∧ exec (.pktDecode k) s = .next { s with out := s.out ++ [.fn (.record (decodePkt s.cfg k))] }
      ∧ ∃ m : BitVec 3, m.toNat = (n.toNat + 1) % 8
          ∧ exec (.seqInc n) s = .next { s with out := s.out ++ [.fn (.number m)] }

/-- R151: PKT.ENCODE with type ACK and `ack = 0xFF` sets the fault bit and puts nothing out; with a payload over 4095 bytes it
answers `InvalidLength`; otherwise it answers the packet. Nothing else changes. -/
def Obligations.PktEncodePort : Prop :=
  ∀ (s : State) (p : Bytes) (seq ack : Byte) (reliable integrity : Bool) (type : BitVec 4),
    (type = 0 ∧ ack = 0xFF → exec (.pktEncode p seq ack reliable integrity type) s = .next { s with flt := true })
      ∧ (¬ (type = 0 ∧ ack = 0xFF) → 4095 < p.length →
          exec (.pktEncode p seq ack reliable integrity type) s
            = .next { s with out := s.out ++ [.fn (.packet (.error .invalidLength))] })
      ∧ (¬ (type = 0 ∧ ack = 0xFF) → p.length ≤ 4095 →
          ∃ k, encodePkt s.cfg p seq ack reliable integrity type = .packet k
            ∧ exec (.pktEncode p seq ack reliable integrity type) s
              = .next { s with out := s.out ++ [.fn (.packet (.ok k))] })

/-! ### Receive path -/

/-- R91, R112: a token is the arrival of its bytes, each consumed by RX.BYTE, in every state. -/
def Obligations.TokensAreTheirBytes : Prop :=
  ∀ (s : State) (b : Byte) (x : Option Byte),
    let arrives := fun (i : Instr) (bs : Bytes) =>
      ∃ t, exec i s = .next t
        ∧ runAll (.tData bs :: List.replicate (s.inbound.length + bs.length) .rxByte) s = some t ∧ t.inbound = []
    arrives .delim [s.cfg.delim] ∧ arrives .escDelimToken [s.cfg.esc, s.cfg.escDelim]
      ∧ arrives .escEscToken [s.cfg.esc, s.cfg.escEsc] ∧ arrives (.literal b) [b]
      ∧ arrives (.escInvalid x) (s.cfg.esc :: x.toList)

/-- R136, R61: T_DATA appends to the inbound stream and does nothing else, so the cut of the stream has no meaning. -/
def Obligations.TDataAppends : Prop :=
  ∀ (s : State) (a b : Bytes),
    exec (.tData a) s = .next { s with inbound := s.inbound ++ a }
      ∧ runAll [.tData a, .tData b] s = runAll [.tData (a ++ b)] s

/-- R138: what RX.BYTE does with the first byte of the inbound stream, line by line. -/
def Obligations.RxByteLines : Prop :=
  ∀ (s : State) (b : Byte) (rest : Bytes), s.inbound = b :: rest →
    ((s.linkOpen = false ∨ isTerminal s.state = true) →
        exec .rxByte s = .next { s with inbound := rest, rxSync := false, rxBuf := [], rxOvf := false })
    ∧ (s.linkOpen = true → isTerminal s.state = false →
        (b = s.cfg.delim → s.rxSync = true → (s.rxBuf ≠ [] ∨ s.rxOvf = true) →
          ∃ t, exec (.rxFrame ([s.cfg.delim] ++ s.rxBuf ++ [s.cfg.delim]) s.rxOvf)
                { s with inbound := rest, rxBuf := [], rxOvf := false } = .next t
              ∧ exec .rxByte s = .next { t with rxSync := true })
        ∧ (b = s.cfg.delim → ¬ (s.rxSync = true ∧ (s.rxBuf ≠ [] ∨ s.rxOvf = true)) →
          exec .rxByte s = .next { s with inbound := rest, rxSync := true })
        ∧ (b ≠ s.cfg.delim → s.rxSync = false → exec .rxByte s = .next { s with inbound := rest })
        ∧ (b ≠ s.cfg.delim → s.rxSync = true → s.rxBuf.length = s.cfg.rxBufMax →
          exec .rxByte s = .next { s with inbound := rest, rxOvf := true })
        ∧ (b ≠ s.cfg.delim → s.rxSync = true → s.rxBuf.length ≠ s.cfg.rxBufMax →
          exec .rxByte s = .next { s with inbound := rest, rxBuf := s.rxBuf ++ [b] }))

/-- R139, R104: one bad chunk is counted once and logged, and changes nothing else; a good one is dispatched by its kind, which its type,
its reliable flag and its whole payload decide: any configuration byte will do, and everything else is K_OTHER. What a LOG line holds is
the model's (log 15). -/
def Obligations.RxFrameLines : Prop :=
  ∀ (s : State) (chunk : Bytes) (ovf : Bool), s.linkOpen = true → isTerminal s.state = false →
    let counted := fun e => Host.Outcome.next (φ := Fault) (ρ := Refusal)
      { s with errCount := s.errCount + 1, out := s.out ++ [.up (.log (.decodeError e (s.errCount + 1)))] }
    (ovf = true → exec (.rxFrame chunk ovf) s = counted .malformedFrame)
      ∧ (ovf = false → ∀ e, decodeFrame s.cfg chunk = .error e →
          exec (.rxFrame chunk ovf) s = counted .malformedFrame)
      ∧ (ovf = false → ∀ r e, decodeFrame s.cfg chunk = .ok r → decodePkt s.cfg r = .error e →
          exec (.rxFrame chunk ovf) s = counted e)
      ∧ (ovf = false → ∀ r d, decodeFrame s.cfg chunk = .ok r → decodePkt s.cfg r = .ok d →
          exec (.rxFrame chunk ovf) s = exec (kindInstr s.cfg d) s
            ∧ (cfgValid s.cfg = true →
                let control := fun p => d.type = s.cfg.ptLinkControl ∧ d.payload = p
                ∀ i : Instr,
                  (d.type = 0 ∧ i = .kAck d)
                    ∨ (d.type = s.cfg.ptVendor ∧ d.reliable = true ∧ i = .kData d)
                    ∨ (d.type = s.cfg.ptVendor ∧ d.reliable = false ∧ i = .kDataUnrel d)
                    ∨ (d.type = s.cfg.ptReset ∧ i = .kReset d)
                    ∨ (control [s.cfg.syncPat.first, s.cfg.syncPat.second] ∧ i = .kSync d)
                    ∨ (control [s.cfg.syncRspPat.first, s.cfg.syncRspPat.second] ∧ i = .kSyncRsp d)
                    ∨ ((∃ x, control [s.cfg.configPat.first, s.cfg.configPat.second, x]) ∧ i = .kConfig d)
                    ∨ ((∃ x, control [s.cfg.configRspPat.first, s.cfg.configRspPat.second, x]) ∧ i = .kConfigRsp d)
                    ∨ (((d.type ≠ 0 ∧ d.type ≠ s.cfg.ptVendor ∧ d.type ≠ s.cfg.ptReset ∧ d.type ≠ s.cfg.ptLinkControl)
                        ∨ (d.type = s.cfg.ptLinkControl
                          ∧ d.payload ≠ [s.cfg.syncPat.first, s.cfg.syncPat.second]
                          ∧ d.payload ≠ [s.cfg.syncRspPat.first, s.cfg.syncRspPat.second]
                          ∧ (∀ x, d.payload ≠ [s.cfg.configPat.first, s.cfg.configPat.second, x])
                          ∧ ∀ x, d.payload ≠ [s.cfg.configRspPat.first, s.cfg.configRspPat.second, x]))
                      ∧ i = .kOther d) →
                  exec (.rxFrame chunk ovf) s = exec i s))

/-- R141: whatever was received before, a well-formed frame `w` is cut as a chunk equal to `w` exactly once, at its last byte. Its
opening delimiter closes at most the chunk before it. The premise on RX_BUF_MAX is that of R293, the one on the buffer is part of
the invariant. -/
def Obligations.FrameCutAfterAnything : Prop :=
  ∀ (s : State) (k rest : Bytes), framingOk s.cfg = true → rxBufferOk s → s.linkOpen = true → isTerminal s.state = false →
    k ≠ [] → (stuff s.cfg k).length ≤ s.cfg.rxBufMax → s.inbound = encodeFrame s.cfg k ++ rest →
    ∃ s1 s2, exec .rxByte s = .next s1 ∧ s1.rxBuf = [] ∧ s1.rxOvf = false
      ∧ exec (.rxFrame (encodeFrame s.cfg k) false) { s1 with inbound := rest } = .next s2
      ∧ runAll (List.replicate (encodeFrame s.cfg k).length .rxByte) s = some s2

/-! ### Packet kinds and handlers -/

/-- R68: what `emit` does, for each of the seven templates of R105, under its precondition `link_open = 1`. -/
def Obligations.TemplatesAreEmitted : Prop :=
  ∀ (s : State) (i : Instr) (f : Bytes), s.linkOpen = true →
    ((i = .resetFrame ∧ f = resetFrameOf s.cfg) ∨ (i = .syncFrame ∧ f = syncFrameOf s.cfg)
      ∨ (i = .syncRspFrame ∧ f = syncRspFrameOf s.cfg) ∨ (i = .configFrame ∧ f = configFrameOf s.cfg)
      ∨ (i = .configRspFrame ∧ f = configRspFrameOf s.cfg) ∨ (∃ a, i = .ackFrame a ∧ f = ackFrameOf s.cfg a)
      ∨ (∃ p sq a, p.length ≤ 4095 ∧ i = .dataFrame p sq a ∧ f = dataFrameOf s.cfg p sq a)) →
    ∃ a n, mayAnswer s a ∧
      exec i s = .next { s with
        out := s.out ++ [.tq (.tSend f) a], answers := s.answers.tail, freeCount := n,
        exit := { s.exit with ioError := s.exit.ioError || a == .err } }

/-- R140, R227: the cells of the dispatch table that say "drop", and the terminal states, which have no column (log 19). Unreliable
data, reset packets and unknown packets are dropped in every state. -/
def Obligations.DispatchDrops : Prop :=
  ∀ (s : State) (d : Packet),
    exec (.kDataUnrel d) s = .next s ∧ exec (.kReset d) s = .next s ∧ exec (.kOther d) s = .next s
      ∧ (s.state ≠ .uninitialized → s.state ≠ .initialized → s.state ≠ .active → exec (.kSync d) s = .next s)
      ∧ (s.state ≠ .uninitialized → exec (.kSyncRsp d) s = .next s)
      ∧ (s.state ≠ .initialized → s.state ≠ .active → exec (.kConfig d) s = .next s)
      ∧ (s.state ≠ .initialized → exec (.kConfigRsp d) s = .next s)
      ∧ (s.state ≠ .active → exec (.kAck d) s = .next s ∧ exec (.kData d) s = .next s)

/-- R198, R200, R226: a SYNC is answered with SYNC-RESPONSE in UNINITIALIZED and INITIALIZED, only noted in ACTIVE, and dropped in
START and RESET; a CONFIG is answered with CONFIG-RESPONSE in INITIALIZED and in ACTIVE and dropped before. -/
def Obligations.HandshakePacketsAnswered : Prop :=
  ∀ (s : State) (d : Packet) (i : Instr),
    (∀ f, (((i = .kSync d ∨ i = .rxSync) ∧ (s.state = .uninitialized ∨ s.state = .initialized) ∧ f = syncRspFrameOf s.cfg)
          ∨ ((i = .kConfig d ∨ i = .rxConfig) ∧ (s.state = .initialized ∨ s.state = .active)
            ∧ f = configRspFrameOf s.cfg)) →
      ∃ a n, mayAnswer s a ∧
        exec i s = .next { s with
          out := s.out ++ [.tq (.tSend f) a], answers := s.answers.tail, freeCount := n,
          exit := { s.exit with ioError := s.exit.ioError || a == .err } })
    ∧ ((i = .kSync d ∨ i = .rxSyncActive) → s.state = .active →
        exec i s = .next { s with exit := { s.exit with syncReceived := true } })
    ∧ ((i = .kSync d ∧ (s.state = .start ∨ s.state = .reset))
        ∨ (i = .kConfig d ∧ (s.state = .start ∨ s.state = .reset ∨ s.state = .uninitialized)) → exec i s = .next s)

/-- R197, R199: a SYNC-RESPONSE in UNINITIALIZED and a CONFIG-RESPONSE in INITIALIZED set `x_peer_responded` and nothing else; in
every other state they are dropped. -/
def Obligations.ResponsesNoted : Prop :=
  ∀ (s : State) (d : Packet) (i : Instr),
    (((i = .kSyncRsp d ∨ i = .rxSyncRsp) ∧ s.state = .uninitialized)
        ∨ ((i = .kConfigRsp d ∨ i = .rxConfigRsp) ∧ s.state = .initialized) →
      exec i s = .next { s with exit := { s.exit with peerResponded := true } })
    ∧ ((i = .kSyncRsp d ∧ s.state ≠ .uninitialized) ∨ (i = .kConfigRsp d ∧ s.state ≠ .initialized) → exec i s = .next s)

/-- R220: the three cases of an acknowledgement in ACTIVE. -/
def Obligations.AckHandled : Prop :=
  ∀ (s : State) (d : Packet) (i : Instr), s.state = .active → kind s.cfg d = .ack → (i = .kAck d ∨ i = .rxAck d) →
    (d.ack = s.seqNum + 1 → s.txBusy = true → ∃ f rem n,
      exec i s = .next { s with
        seqNum := s.seqNum + 1, txBusy := false, txFrame := f, tTx := ⟨false, rem⟩, out := s.out ++ [.hr .send .ok],
        freeCount := n })
    ∧ (d.ack = s.seqNum + 1 → s.txBusy = false → exec i s = .next { s with seqNum := s.seqNum + 1 })
    ∧ (d.ack = s.seqNum → exec i s = .next s)
    ∧ (d.ack ≠ s.seqNum → d.ack ≠ s.seqNum + 1 →
        exec i s = .next { s with exit := { s.exit with syncError := true } })

/-- R224: a data packet with the expected number is acknowledged with the advanced number and delivered; any other is acknowledged
again and not delivered. -/
def Obligations.DataHandled : Prop :=
  ∀ (s : State) (d : Packet) (i : Instr), s.state = .active → kind s.cfg d = .data → (i = .kData d ∨ i = .rxData d) →
    (d.seq = s.ackNum → ∃ a n, mayAnswer s a ∧
      exec i s = .next { s with
        ackNum := s.ackNum + 1, answers := s.answers.tail, freeCount := n,
        out := s.out ++ [.tq (.tSend (ackFrameOf s.cfg (s.ackNum + 1))) a, .up (.data d.payload)],
        exit := { s.exit with ioError := s.exit.ioError || a == .err } })
    ∧ (d.seq ≠ s.ackNum → ∃ a n, mayAnswer s a ∧
        exec i s = .next { s with
          answers := s.answers.tail, freeCount := n,
          out := s.out ++ [.tq (.tSend (ackFrameOf s.cfg s.ackNum)) a],
          exit := { s.exit with ioError := s.exit.ioError || a == .err } })

/-! ### Host commands -/

/-- R171: OPEN on an open link is answered `InvalidState`; an accepted OPEN loads the "after OPEN" column of R51, arms the open timer,
and opens the transport. `tx_frame` and the `rem` of the disarmed timers are free. -/
def Obligations.OpenAccepted : Prop :=
  ∀ s : State,
    (s.linkOpen = true → exec .hostOpen s = .next { s with out := s.out ++ [.hr .opn .invalidState] })
    ∧ (s.linkOpen = false → ∃ a f r1 r2 n, mayAnswer s a ∧
      exec .hostOpen s = .next { s with
        state := .start, linkOpen := true, seqNum := 0, ackNum := 0, retryCnt := 0, txRetryCnt := 0, errCount := 0,
        exit := { ExitFlags.zero with opened := a == .ok, ioError := a == .err },
        openPending := true, closePending := false, txBusy := false, txFrame := f,
        rxSync := false, rxBuf := [], rxOvf := false, inbound := [],
        tSm := ⟨false, r1⟩, tTx := ⟨false, r2⟩, tOpen := ⟨true, BitVec.ofNat 16 (ticks s.cfg s.cfg.openTimeout)⟩,
        out := s.out ++ [.tq .tOpen a], answers := s.answers.tail, freeCount := n })

/-- R173: an accepted CLOSE sets `x_close` and `close_pending` and nothing else; any other is answered `InvalidState`. -/
def Obligations.CloseAccepted : Prop :=
  ∀ s : State,
    (s.linkOpen = false ∨ s.closePending = true →
      exec .hostClose s = .next { s with out := s.out ++ [.hr .close .invalidState] })
    ∧ (s.linkOpen = true → s.closePending = false →
      exec .hostClose s = .next { s with exit := { s.exit with close := true }, closePending := true })

/-- R174: CLOSE.DONE closes the link whatever T_CLOSE answers. -/
def Obligations.CloseCompleted : Prop :=
  ∀ s : State, s.closePending = true → isTerminal s.state = true → s.txBusy = false → ∃ a r1 r2 r3 n, mayAnswer s a ∧
    exec .closeDone s = .next { s with
      linkOpen := false, closePending := false, rxSync := false, rxBuf := [], rxOvf := false,
      tSm := ⟨false, r1⟩, tTx := ⟨false, r2⟩, tOpen := ⟨false, r3⟩,
      out := s.out ++ [.tq .tClose a, .hr .close (if a = .ok then .ok else .transportError)],
      answers := s.answers.tail, freeCount := n }

/-- R213: an accepted SEND builds the data packet with the current numbers, transmits it, and arms the retransmission timer;
outside ACTIVE it is answered `InvalidState`, with a payload over 4095 bytes `InvalidLength`; while `tx_busy = 1` it is not
accepted and waits on the port. -/
def Obligations.SendAccepted : Prop :=
  ∀ (s : State) (p : Bytes),
    (s.txBusy = true → ∃ w, exec (.hostSend p) s = .next { s with hcWait := w } ∧ p ∈ w)
    ∧ (s.txBusy = false → s.state ≠ .active →
        exec (.hostSend p) s = .next { s with out := s.out ++ [.hr .send .invalidState] })
    ∧ (s.txBusy = false → s.state = .active →
      (4095 < p.length → exec (.hostSend p) s = .next { s with out := s.out ++ [.hr .send .invalidLength] })
      ∧ (p.length ≤ 4095 → ∃ a n, mayAnswer s a ∧
        exec (.hostSend p) s = .next { s with
          txFrame := dataFrameOf s.cfg p s.seqNum s.ackNum, txBusy := true,
          txRetryCnt := BitVec.ofNat 8 (s.cfg.retryBudget - 1),
          tTx := ⟨true, BitVec.ofNat 16 (ticks s.cfg s.cfg.retxInterval)⟩,
          exit := { s.exit with ioError := s.exit.ioError || a == .err },
          out := s.out ++ [.tq (.tSend (dataFrameOf s.cfg p s.seqNum s.ackNum)) a],
          answers := s.answers.tail, freeCount := n }))

/-- R74, R286: while `tx_busy = 1` a SEND is not accepted and waits; its state test is made when the port presents it again. That
the port holds the waiting commands in a list, oldest first, is the model's (log 9). -/
def Obligations.SendStalls : Prop :=
  ∀ (s : State) (p : Bytes),
    (s.txBusy = true → exec (.hostSend p) s = .next { s with hcWait := s.hcWait ++ [p] })
    ∧ ∀ (rest : List Message) (q : Bytes) (w : List Bytes), cfgValid s.cfg = true → s.agenda = ⟨.hc, [0]⟩ :: rest →
        s.hcWait = q :: w →
        (s.txBusy = true → step s = .next { s with agenda := rest })
        ∧ (s.txBusy = false → step s = exec (.hostSend q) { s with agenda := rest, hcWait := w })

/-! ### Sequencer -/

/-- R179, R180, R181, R183, R187, R190: START to RESET, RESET to UNINITIALIZED, and UNINITIALIZED to INITIALIZED when the peer has
responded, whether or not the budget is spent (R177), each with its entry action. -/
def Obligations.HandshakeStatesEntered : Prop :=
  ∀ s : State, s.exit.ioError = false → s.exit.close = false →
    (s.state = .start → s.exit.opened = true → ∃ a n, mayAnswer s a ∧
      exec .seqStart s = .next { s with
        state := .reset, exit := { ExitFlags.zero with resetSent := true, ioError := a == .err },
        tSm := ⟨true, BitVec.ofNat 16 (ticks s.cfg s.cfg.resetSettle)⟩,
        out := s.out ++ [.up (.status .reset .opened), .tq (.tSend (resetFrameOf s.cfg)) a],
        answers := s.answers.tail, freeCount := n })
    ∧ (s.state = .reset → s.exit.resetSent = true → s.exit.resetWaitDone = true → ∃ a n, mayAnswer s a ∧
      exec .seqReset s = .next { s with
        state := .uninitialized, exit := { ExitFlags.zero with ioError := a == .err },
        retryCnt := BitVec.ofNat 8 (s.cfg.retryBudget - 1),
        tSm := ⟨true, BitVec.ofNat 16 (ticks s.cfg s.cfg.retxInterval)⟩,
        out := s.out ++ [.up (.status .uninitialized .resetDone), .tq (.tSend (syncFrameOf s.cfg)) a],
        answers := s.answers.tail, freeCount := n })
    ∧ (s.state = .uninitialized → s.exit.peerResponded = true → ∃ a n, mayAnswer s a ∧
      exec .seqUninitOk s = .next { s with
        state := .initialized, exit := { ExitFlags.zero with ioError := a == .err },
        retryCnt := BitVec.ofNat 8 (s.cfg.retryBudget - 1),
        tSm := ⟨true, BitVec.ofNat 16 (ticks s.cfg s.cfg.retxInterval)⟩,
        out := s.out ++ [.up (.status .initialized .peerResponded), .tq (.tSend (configFrameOf s.cfg)) a],
        answers := s.answers.tail, freeCount := n })

/-- R193, R210, R172: INITIALIZED to ACTIVE clears the counters, sends nothing, and completes a pending OPEN with `OK`. -/
def Obligations.ActiveEntered : Prop :=
  ∀ s : State, s.exit.ioError = false → s.exit.close = false → s.state = .initialized → s.exit.peerResponded = true →
    ∃ r1 r2 n,
      exec .seqInitOk s = .next { s with
        state := .active, exit := ExitFlags.zero, seqNum := 0, ackNum := 0, tSm := ⟨false, r1⟩, openPending := false,
        tOpen := if s.openPending then ⟨false, r2⟩ else s.tOpen,
        out := s.out ++ [.up (.status .active .peerResponded)] ++ (if s.openPending then [.hr .opn .ok] else []),
        freeCount := n }

/-- R188, R194, R178, R254, R172: the entries to the terminal states, each with its cause and the result of a pending OPEN; an I/O
error comes before a close (R177). -/
def Obligations.TerminalEntered : Prop :=
  ∀ (s : State) (i : Instr) (st : ConnState) (c : Cause) (r : ResultCode),
    (s.exit.ioError = false ∧ s.exit.close = false ∧ s.exit.peerResponded = false ∧ s.exit.retryExhausted = true
        ∧ st = .noResponse ∧ c = .retryExhausted ∧ r = .noResponse
        ∧ ((i = .seqUninitNr ∧ s.state = .uninitialized) ∨ (i = .seqInitNr ∧ s.state = .initialized)))
      ∨ (i = .seqAbort ∧ s.linkOpen = true ∧ isTerminal s.state = false
        ∧ ((s.exit.ioError = true ∧ st = .failed ∧ c = .ioError ∧ r = .transportError)
          ∨ (s.exit.ioError = false ∧ s.exit.close = true ∧ st = .closed ∧ c = .close ∧ r = .closed))) →
    ∃ r1 r2 n,
      exec i s = .next { s with
        state := st, exit := { ExitFlags.zero with ioError := s.exit.ioError, close := s.exit.close },
        tSm := ⟨false, r1⟩, openPending := false,
        tOpen := if s.openPending then ⟨false, r2⟩ else s.tOpen,
        out := s.out ++ [.up (.status st c)] ++ (if s.openPending then [.hr .opn r] else []),
        freeCount := n }

/-- R228, R253: ACTIVE to RESET on a SYNC or an acknowledgement mismatch, the SYNC's cause first; a SEND in flight, the counters and
the reassembler are kept. -/
def Obligations.ReestablishmentEntered : Prop :=
  ∀ s : State, s.state = .active → s.exit.ioError = false → s.exit.close = false →
    (s.exit.syncReceived = true ∨ s.exit.syncError = true) → ∃ a n, mayAnswer s a ∧
      exec .seqActive s = .next { s with
        state := .reset, exit := { ExitFlags.zero with resetSent := true, ioError := a == .err },
        tSm := ⟨true, BitVec.ofNat 16 (ticks s.cfg s.cfg.resetSettle)⟩,
        out := s.out ++ [.up (.status .reset (if s.exit.syncReceived then .peerResync else .ackMismatch)),
          .tq (.tSend (resetFrameOf s.cfg)) a],
        answers := s.answers.tail, freeCount := n }

/-- A step whose guard, as the rule of the step gives it, does not hold leaves the state as it is: that the machine then stutters is
the model's choice (log 2, log 11, log 19). With R177 in the guards: an I/O error or a close comes before every other exit. -/
def Obligations.DisabledStepsDoNothing : Prop :=
  ∀ (s : State) (d : Packet) (chunk : Bytes) (ovf : Bool),
    let io := s.exit.ioError = true ∨ s.exit.close = true
    let due := fun t : Timer => t.armed = true ∧ t.rem = 0
    ∀ i : Instr, (i = .rxByte ∧ s.inbound = [])
      ∨ (i = .rxFrame chunk ovf ∧ (s.linkOpen = false ∨ isTerminal s.state = true))
      ∨ (i = .rxSyncRsp ∧ s.state ≠ .uninitialized) ∨ (i = .rxConfigRsp ∧ s.state ≠ .initialized)
      ∨ (i = .rxSync ∧ s.state ≠ .uninitialized ∧ s.state ≠ .initialized) ∨ (i = .rxSyncActive ∧ s.state ≠ .active)
      ∨ (i = .rxConfig ∧ s.state ≠ .initialized ∧ s.state ≠ .active)
      ∨ (i = .rxAck d ∧ (kind s.cfg d ≠ .ack ∨ s.state ≠ .active))
      ∨ (i = .rxData d ∧ (kind s.cfg d ≠ .data ∨ s.state ≠ .active))
      ∨ (i ∈ [Instr.resetFrame, .syncFrame, .syncRspFrame, .configFrame, .configRspFrame, .ackFrame d.ack,
          .dataFrame d.payload d.seq d.ack] ∧ s.linkOpen = false)
      ∨ (i = .seqAbort ∧ (s.linkOpen = false ∨ isTerminal s.state = true ∨ ¬ io))
      ∨ (i = .seqStart ∧ (s.state ≠ .start ∨ io ∨ s.exit.opened = false))
      ∨ (i = .seqReset ∧ (s.state ≠ .reset ∨ io ∨ s.exit.resetSent = false ∨ s.exit.resetWaitDone = false))
      ∨ (i = .seqUninitOk ∧ (s.state ≠ .uninitialized ∨ io ∨ s.exit.peerResponded = false))
      ∨ (i = .seqUninitNr ∧ (s.state ≠ .uninitialized ∨ io ∨ s.exit.peerResponded = true ∨ s.exit.retryExhausted = false))
      ∨ (i = .seqInitOk ∧ (s.state ≠ .initialized ∨ io ∨ s.exit.peerResponded = false))
      ∨ (i = .seqInitNr ∧ (s.state ≠ .initialized ∨ io ∨ s.exit.peerResponded = true ∨ s.exit.retryExhausted = false))
      ∨ (i = .seqActive ∧ (s.state ≠ .active ∨ io ∨ (s.exit.syncReceived = false ∧ s.exit.syncError = false)))
      ∨ (i = .closeDone ∧ (s.closePending = false ∨ isTerminal s.state = false ∨ s.txBusy = true))
      ∨ (i = .txAbort ∧ (s.txBusy = false ∨ ¬ io))
      ∨ (i = .tSmExpire ∧ ¬ due s.tSm) ∨ (i = .tTxExpire ∧ ¬ due s.tTx) ∨ (i = .tOpenExpire ∧ ¬ due s.tOpen)
      ∨ (i = .tick ∧ (due s.tSm ∨ due s.tTx ∨ due s.tOpen)) →
    exec i s = .next s

/-! ### Timers and the transmit engine -/

/-- R195: the expiry of `t_sm` in RESET, in the handshake states, and in any other state. -/
def Obligations.SequencerTimerExpires : Prop :=
  ∀ s : State, s.tSm.armed = true → s.tSm.rem = 0 →
    (s.state = .reset → ∃ r n,
      exec .tSmExpire s = .next { s with
        tSm := ⟨false, r⟩, exit := { s.exit with resetWaitDone := true }, freeCount := n })
    ∧ (s.state ≠ .reset → s.state ≠ .uninitialized → s.state ≠ .initialized → ∃ r n,
      exec .tSmExpire s = .next { s with tSm := ⟨false, r⟩, freeCount := n })
    ∧ ∀ f, ((s.state = .uninitialized ∧ f = syncFrameOf s.cfg) ∨ (s.state = .initialized ∧ f = configFrameOf s.cfg)) →
      ((s.exit.peerResponded = true ∨ s.exit.ioError = true ∨ s.exit.close = true) → ∃ r n,
        exec .tSmExpire s = .next { s with tSm := ⟨false, r⟩, freeCount := n })
      ∧ (s.exit.peerResponded = false → s.exit.ioError = false → s.exit.close = false →
          (s.retryCnt = 0 → ∃ r n,
            exec .tSmExpire s = .next { s with
              tSm := ⟨false, r⟩, exit := { s.exit with retryExhausted := true }, freeCount := n })
          ∧ (s.retryCnt ≠ 0 → ∃ a n, mayAnswer s a ∧
            exec .tSmExpire s = .next { s with
              retryCnt := s.retryCnt - 1, exit := { s.exit with ioError := a == .err },
              tSm := ⟨true, BitVec.ofNat 16 (ticks s.cfg s.cfg.retxInterval)⟩,
              out := s.out ++ [.tq (.tSend f) a], answers := s.answers.tail, freeCount := n }))

/-- R216: the expiry of `t_tx`: retransmit the same frame while the budget lasts, whatever the state, then give up. -/
def Obligations.RetransmissionTimerExpires : Prop :=
  ∀ s : State, s.tTx.armed = true → s.tTx.rem = 0 →
    ((s.txBusy = false ∨ s.exit.ioError = true ∨ s.exit.close = true) → ∃ r n,
      exec .tTxExpire s = .next { s with tTx := ⟨false, r⟩, freeCount := n })
    ∧ (s.txBusy = true → s.exit.ioError = false → s.exit.close = false →
        (s.txRetryCnt = 0 → ∃ f r n,
          exec .tTxExpire s = .next { s with
            tTx := ⟨false, r⟩, txBusy := false, txFrame := f, out := s.out ++ [.hr .send .maxRetriesReached], freeCount := n })
        ∧ (s.txRetryCnt ≠ 0 → ∃ a n, mayAnswer s a ∧
          exec .tTxExpire s = .next { s with
            txRetryCnt := s.txRetryCnt - 1, exit := { s.exit with ioError := a == .err },
            tTx := ⟨true, BitVec.ofNat 16 (ticks s.cfg s.cfg.retxInterval)⟩,
            out := s.out ++ [.tq (.tSend s.txFrame) a], answers := s.answers.tail, freeCount := n }))

/-- R218: TX.ABORT releases the SEND in flight, with `TransportError` on an I/O error and `Closed` on a close. -/
def Obligations.SendAborted : Prop :=
  ∀ s : State, s.txBusy = true → (s.exit.ioError = true ∨ s.exit.close = true) → ∃ f r n,
    exec .txAbort s = .next { s with
      txBusy := false, txFrame := f, tTx := ⟨false, r⟩, freeCount := n,
      out := s.out ++ [.hr .send (if s.exit.ioError then .transportError else .closed)] }

/-- R175: the expiry of `t_open` answers a pending OPEN with `Timeout` and leaves the machine running. -/
def Obligations.OpenTimerExpires : Prop :=
  ∀ s : State, s.tOpen.armed = true → s.tOpen.rem = 0 → ∃ r n,
    exec .tOpenExpire s = .next { s with
      tOpen := ⟨false, r⟩, openPending := false, freeCount := n,
      out := s.out ++ (if s.openPending then [.hr .opn .timeout] else []) }

/-- R44: while no timer is expired, TICK counts every armed timer down by one. -/
def Obligations.TickCountsDown : Prop :=
  ∀ s : State,
    let due := fun t : Timer => t.armed = true ∧ t.rem = 0
    let after := fun t : Timer => if t.armed then { t with rem := t.rem - 1 } else t
    ¬ due s.tSm → ¬ due s.tTx → ¬ due s.tOpen →
      exec .tick s = .next { s with tSm := after s.tSm, tTx := after s.tTx, tOpen := after s.tOpen }

/-- R250, R251: a transport status sets `x_io_error` exactly when the link is open and the code is an I/O error; a transport log line
is passed upward and changes no register. -/
def Obligations.TransportIndications : Prop :=
  ∀ (s : State) (code : BitVec 32) (m : Bytes) (sev : Byte),
    exec (.tStatus code m) s
        = .next { s with exit := { s.exit with ioError := s.exit.ioError || (s.linkOpen && isIoError s.cfg code) } }
      ∧ exec (.tLog sev m) s = .next { s with out := s.out ++ [.up (.log (.transport sev m))] }

/-! ### Reset -/

/-- R51, R281: the state after hardware reset. (`tx_frame` and every `rem` are unspecified and not part of the statement.) -/
def Obligations.ResetValues : Prop :=
  let s := State.reset
  s.state = .closed ∧ s.linkOpen = false ∧ s.seqNum = 0 ∧ s.ackNum = 0 ∧ s.retryCnt = 0 ∧ s.txRetryCnt = 0
    ∧ s.errCount = 0 ∧ s.exit.toBits = 0 ∧ s.openPending = false ∧ s.closePending = false ∧ s.txBusy = false
    ∧ s.rxSync = false ∧ s.rxBuf = [] ∧ s.rxOvf = false ∧ s.tSm.armed = false ∧ s.tTx.armed = false
    ∧ s.tOpen.armed = false ∧ s.flt = false ∧ s.inbound = []

/-- R281, R282: hardware reset in any state: every register to its reset value, pending commands lost, nothing requested and nothing
completed, the parameters kept. -/
def Obligations.HardwareReset : Prop :=
  ∀ s : State, ∃ f r1 r2 r3 n,
    exec .hwReset s = .next { s with
      state := .closed, linkOpen := false, seqNum := 0, ackNum := 0, retryCnt := 0, txRetryCnt := 0, errCount := 0,
      exit := ExitFlags.zero, openPending := false, closePending := false, txBusy := false, txFrame := f,
      rxSync := false, rxBuf := [], rxOvf := false, tSm := ⟨false, r1⟩, tTx := ⟨false, r2⟩, tOpen := ⟨false, r3⟩,
      flt := false, inbound := [], hcWait := [], freeCount := n }

/-- R23, R31, R108, R109, R110, R111: the codes of the states, of the causes, of the results and of the messages on the ports, and
the bits of EXIT in their places. -/
def Obligations.PortCodes : Prop :=
  [ConnState.start, .reset, .uninitialized, .initialized, .active, .failed, .noResponse, .closed].map
      (fun st => (stateCode st).toNat) = [0, 1, 2, 3, 4, 5, 6, 7]
    ∧ [Cause.opened, .resetDone, .peerResponded, .retryExhausted, .peerResync, .ackMismatch, .ioError, .close].map
        (fun c => (causeCode c).toNat) = [1, 2, 3, 4, 5, 6, 7, 8]
    ∧ [ResultCode.ok, .invalidState, .timeout, .noResponse, .maxRetriesReached, .closed, .transportError, .invalidLength,
        .malformedFrame, .headerChecksumMismatch, .lengthMismatch, .payloadChecksumMismatch].map
        (fun r => (resultCode r).toNat) = [0, 1, 2, 3, 4, 5, 6, 7, 8, 9, 10, 11]
    ∧ (∀ e : ExitFlags,
        e.toBits.toNat = count e.opened + 2 * count e.resetSent + 4 * count e.resetWaitDone + 8 * count e.peerResponded
          + 16 * count e.retryExhausted + 32 * count e.syncReceived + 64 * count e.syncError + 128 * count e.ioError
          + 256 * count e.close)
    ∧ (∀ (p f : Bytes) (st : ConnState) (x : Cause) (l : LogLine),
        (indicationCode (.data p)).toNat = 1 ∧ (indicationCode (.status st x)).toNat = 2 ∧ (indicationCode (.log l)).toNat = 3
          ∧ (requestCode .tOpen).toNat = 1 ∧ (requestCode .tClose).toNat = 2 ∧ (requestCode (.tSend f)).toNat = 3)
    ∧ (answerCode .ok).toNat = 0 ∧ (answerCode .err).toNat = 1
    ∧ codeTData.toNat = 1 ∧ codeTStatus.toNat = 2 ∧ codeTLog.toNat = 3
    ∧ ∀ (c : Cfg) (p : Bytes), decode c ⟨.hc, [1]⟩ = .ok .hostOpen ∧ decode c ⟨.hc, [2]⟩ = .ok .hostClose
        ∧ decode c ⟨.hc, 3 :: p⟩ = .ok (.hostSend p) ∧ decode c ⟨.hc, [0]⟩ = .error .noCommand

/-! ### Rules of the whole machine -/

/-- R52: the invariant holds after reset. -/
def Obligations.InvariantAtReset : Prop := Inv State.reset

/-- R52: every step keeps the invariant, from every state that meets it. -/
def Obligations.StepKeepsInvariant : Prop :=
  ∀ s t : State, Inv s → step s = .next t → Inv t

/-- R170: no operation but hardware reset moves `state` except along a row of the transition table, with one STATUS of the row's
cause (R176 line 4); without a transition there is no STATUS, and while the link is closed only OPEN moves `state`. -/
def Obligations.TransitionGraph : Prop :=
  ∀ (s t : State) (i : Instr), Inv s → i ≠ .hwReset → exec i s = .next t →
    ∃ new, t.out = s.out ++ new
      ∧ ((t.state = s.state ∧ statuses new = [])
        ∨ ∃ c, transition s c t.state ∧ (s.linkOpen = true ∨ i = .hostOpen)
          ∧ statuses new = c.toList.map fun x => (t.state, x))

/-- R30, R155, R232, R242: one step changes `seq_num` and `ack_num` only to 0 or to their successor modulo 8, and `err_count` only by RX.BYTE
adding one or by OPEN or hardware reset clearing it. -/
def Obligations.CountersOnlyAdvance : Prop :=
  ∀ (s t : State) (i : Instr), isStep i = true → exec i s = .next t →
    (t.seqNum = s.seqNum ∨ t.seqNum = 0 ∨ t.seqNum.toNat = (s.seqNum.toNat + 1) % 8)
      ∧ (t.ackNum = s.ackNum ∨ t.ackNum = 0 ∨ t.ackNum.toNat = (s.ackNum.toNat + 1) % 8)
      ∧ (t.errCount = s.errCount ∨ (i = .rxByte ∧ t.errCount = s.errCount + 1)
        ∨ ((i = .hostOpen ∨ i = .hwReset) ∧ t.errCount = 0))

/-- R50, R247: the fault bit is set by PKT.ENCODE with type ACK and `ack = 0xFF` alone, and cleared by hardware reset alone. A state
with the bit set is faulted and never final; no operation but hardware reset leads out of the faulted states, and the bit changes
nothing else of what any of them does. In a final state no step of the block does anything. What counts as an end apart from the
bit, `State.atRest`, is the model's choice (log 26). -/
def Obligations.FaultBitSticky : Prop :=
  ∀ s : State,
    (s.flt = true → s.faulted = true ∧ s.final = false)
      ∧ (notFaulted s → s.final = s.atRest)
      ∧ (s.final = true → notFaulted s ∧ (∀ i ∈ ownSteps, exec i s = .next s) ∧ (cfgValid s.cfg = true → step s = .next s))
      ∧ ∀ (t : State) (i : Instr), exec i s = .next t →
        (s.flt = true → i ≠ .hwReset → t.flt = true ∧ t.faulted = true ∧ t.final = false)
          ∧ (i = .hwReset → t.flt = false ∧ notFaulted t)
          ∧ (notFaulted s → (t.flt = true ↔ ∃ p seq r g, i = .pktEncode p seq 0xFF r g 0))
          ∧ (i ≠ .hwReset → exec i { s with flt := true } = .next { t with flt := true })

/-- R13, R22: no operation changes the parameters; and what a port has been given is never taken back (R62; log 8). -/
def Obligations.ParametersConstant : Prop :=
  ∀ (s t : State) (i : Instr), exec i s = .next t → t.cfg = s.cfg ∧ s.out <+: t.out

/-- R172: exactly one result for each accepted OPEN: results given and OPEN pending together grow by one with each acceptance and
stay the same in every other operation but hardware reset. -/
def Obligations.OneResultPerOpen : Prop :=
  ∀ (s t : State) (i : Instr), Inv s → i ≠ .hwReset → exec i s = .next t →
    openResults t.out + count t.openPending
      = openResults s.out + count s.openPending + count (i == .hostOpen && !s.linkOpen)

/-- R212: exactly one result for each SEND: results given, the SEND in flight and the stalled ones together grow by one with each SEND
presented and stay the same in every other operation but hardware reset. -/
def Obligations.OneResultPerSend : Prop :=
  ∀ (s t : State) (i : Instr), Inv s → i ≠ .hwReset → exec i s = .next t →
    sendResults t.out + count t.txBusy + t.hcWait.length
      = sendResults s.out + count s.txBusy + s.hcWait.length + count (match i with | .hostSend _ => true | _ => false)

/-- R41, R214, R292: while a SEND stays in flight its frame stays byte for byte what it was at acceptance, whatever runs. -/
def Obligations.SendFrameUnchanged : Prop :=
  ∀ (s t : State) (i : Instr), exec i s = .next t → s.txBusy = true → t.txBusy = true → t.txFrame = s.txFrame

/-- R262 (a): while the link is closed no request is issued, except the T_OPEN of an OPEN. -/
def Obligations.NoRequestWhileClosed : Prop :=
  ∀ (s t : State) (i : Instr), Inv s → s.linkOpen = false → exec i s = .next t →
    ∃ new, t.out = s.out ++ new ∧ ∀ r a, OutMsg.tq r a ∈ new → r = .tOpen ∧ i = .hostOpen

/-- R266: with the link closed, no step but a host command, T_LOG, the codec ports and hardware reset changes anything other than the
unread bytes of the inbound stream. -/
def Obligations.ClosedIsQuiescent : Prop :=
  ∀ (s t : State) (i : Instr), Inv s → s.linkOpen = false → isStep i = true →
    i ≠ .hostOpen → i ≠ .hostClose → i ≠ .hwReset → (∀ p, i ≠ .hostSend p) → (∀ v m, i ≠ .tLog v m) →
    (∀ p, i ≠ .frameEncode p) → (∀ f, i ≠ .frameDecode f) → (∀ p q a r g y, i ≠ .pktEncode p q a r g y) →
    (∀ k, i ≠ .pktDecode k) → (∀ n, i ≠ .seqInc n) →
    exec i s = .next t → t = { s with inbound := t.inbound }

/-- R186, R192: a silent peer gets exactly RETRY_BUDGET transmissions, each followed by a full RETX_INTERVAL: the first on entry and
RETRY_BUDGET - 1 more by the expiries; `x_retry_exhausted` is set when the last wait ends. An OPEN may be pending and a SEND in flight,
if their timers outlast the waits. -/
def Obligations.HandshakeAttempts : Prop :=
  ∀ (s : State) (f : Bytes), cfgValid s.cfg = true →
    let waits := s.cfg.retryBudget * ticks s.cfg s.cfg.retxInterval
    ((s.state = .uninitialized ∧ f = syncFrameOf s.cfg) ∨ (s.state = .initialized ∧ f = configFrameOf s.cfg)) →
    s.exit = ExitFlags.zero → s.retryCnt.toNat = s.cfg.retryBudget - 1 →
    s.tSm = ⟨true, BitVec.ofNat 16 (ticks s.cfg s.cfg.retxInterval)⟩ →
    (s.tTx.armed = true → waits ≤ s.tTx.rem.toNat) → (s.tOpen.armed = true → waits ≤ s.tOpen.rem.toNat) →
    s.answers = List.replicate (s.cfg.retryBudget - 1) .ok →
    ∃ t, runAll (List.replicate s.cfg.retryBudget
          (List.replicate (ticks s.cfg s.cfg.retxInterval) Instr.tick ++ [.tSmExpire])).flatten s = some t
      ∧ t.out = s.out ++ List.replicate (s.cfg.retryBudget - 1) (.tq (.tSend f) .ok)
      ∧ t.exit = { ExitFlags.zero with retryExhausted := true } ∧ t.state = s.state ∧ t.retryCnt = 0
      ∧ t.tSm.armed = false ∧ t.openPending = s.openPending ∧ t.txBusy = s.txBusy

/-- R215, R217, R229: a SEND that is never acknowledged is transmitted RETRY_BUDGET times, the same frame at intervals of RETX_INTERVAL,
and fails with `MaxRetriesReached` when the last wait ends; `seq_num` and `state` stay. An OPEN may be pending and the sequencer's timer
may run, if their timers outlast the waits; and whatever else is run while the SEND stays in flight, its frame, its retry counter and its
timer are touched by TICK and T_TX.EXPIRE alone, so the attempts go on through RESET and the handshake states. -/
def Obligations.SendAttempts : Prop :=
  (∀ s : State, cfgValid s.cfg = true → s.txBusy = true → s.exit.ioError = false → s.exit.close = false →
    let waits := s.cfg.retryBudget * ticks s.cfg s.cfg.retxInterval
    s.txRetryCnt.toNat = s.cfg.retryBudget - 1 →
    s.tTx = ⟨true, BitVec.ofNat 16 (ticks s.cfg s.cfg.retxInterval)⟩ →
    (s.tSm.armed = true → waits ≤ s.tSm.rem.toNat) → (s.tOpen.armed = true → waits ≤ s.tOpen.rem.toNat) →
    s.answers = List.replicate (s.cfg.retryBudget - 1) .ok →
    ∃ t, runAll (List.replicate s.cfg.retryBudget
          (List.replicate (ticks s.cfg s.cfg.retxInterval) Instr.tick ++ [.tTxExpire])).flatten s = some t
      ∧ t.out = s.out ++ List.replicate (s.cfg.retryBudget - 1) (.tq (.tSend s.txFrame) .ok)
          ++ [.hr .send .maxRetriesReached]
      ∧ t.txBusy = false ∧ t.seqNum = s.seqNum ∧ t.ackNum = s.ackNum ∧ t.state = s.state ∧ t.exit = s.exit
      ∧ t.tTx.armed = false)
  ∧ ∀ (s t : State) (i : Instr), s.txBusy = true → i ≠ .tick → i ≠ .tTxExpire → exec i s = .next t → sendKept s t

/-- R202, R231: two blocks back to back. From two closed blocks the second of which is opened at most RETRY_BUDGET - 1 intervals after
the first, over a transport that loses nothing and adds no delay, both reach ACTIVE and agree on the numbers (in the run of
`Joined.next`, the model's choice of a schedule, log 25). And with two blocks in ACTIVE that agree on the number, a SEND of one is
delivered by the other exactly once, its frame arriving once and then `n` times more, and the acknowledgement ends the SEND with `OK`
and the two agree again. -/
def Obligations.ExchangeDeliversOnce : Prop :=
  (∀ (a b : State) (skew : Nat), Inv a → Inv b → a.linkOpen = false → b.linkOpen = false →
    cfgValid a.cfg = true → b.cfg = a.cfg → maxBody a.cfg ≤ a.cfg.rxBufMax → 2 ≤ a.cfg.retryBudget →
    skew ≤ (a.cfg.retryBudget - 1) * ticks a.cfg a.cfg.retxInterval →
    let ready := fun s : State => s.state = .active ∧ s.linkOpen = true ∧ s.inbound = [] ∧ s.rxBuf = [] ∧ s.rxOvf = false
      ∧ s.txBusy = false ∧ s.seqNum = 0 ∧ s.ackNum = 0
    ∃ n, ready (Joined.run skew n (Joined.start a b)).a ∧ ready (Joined.run skew n (Joined.start a b)).b
      ∧ (Joined.run skew n (Joined.start a b)).time = skew + ticks a.cfg a.cfg.resetSettle + ticks a.cfg a.cfg.retxInterval)
  ∧ ∀ (a b : State) (p : Bytes) (n : Nat), cfgValid a.cfg = true → b.cfg = a.cfg → maxBody a.cfg ≤ a.cfg.rxBufMax →
    a.state = .active → b.state = .active → a.linkOpen = true → b.linkOpen = true →
    a.inbound = [] → b.inbound = [] → a.rxBuf = [] → a.rxOvf = false → b.rxBuf = [] → b.rxOvf = false →
    a.txBusy = false → a.seqNum = b.ackNum → p.length ≤ 4095 →
    let arrival := fun (f : Bytes) => Instr.tData f :: List.replicate f.length .rxByte
    ∃ (a1 b1 b2 a2 : State) (f g : Bytes) (x y : Answer) (z : List Answer),
      exec (.hostSend p) a = .next a1 ∧ a1.out = a.out ++ [.tq (.tSend f) x]
        ∧ runAll (arrival f) b = some b1 ∧ b1.out = b.out ++ [.tq (.tSend g) y, .up (.data p)]
        ∧ runAll (List.replicate n (arrival f)).flatten b1 = some b2
        ∧ b2.out = b1.out ++ z.map (OutMsg.tq (.tSend g)) ∧ z.length = n ∧ b2.ackNum = b1.ackNum
        ∧ runAll (arrival g) a1 = some a2 ∧ a2.out = a1.out ++ [.hr .send .ok]
        ∧ a2.txBusy = false ∧ a2.seqNum = b2.ackNum ∧ a2.seqNum = a.seqNum + 1
end

