-- ==== Sys2Proof/Laws/Codec.lean ====
section
/-! SUPPORT. Lemmas about the frame codec (R130 to R134) and the packet codec (R150 to R156): what `stuff`, `unstuff`, the header
bytes and PKT.DECODE can do, said once. -/

namespace Sys2Proof.Machine

/-! ### Frame codec -/

theorem framingOk_iff (c : Cfg) : framingOk c = true ↔
    c.delim ≠ c.esc ∧ c.delim ≠ c.escDelim ∧ c.delim ≠ c.escEsc ∧ c.esc ≠ c.escDelim ∧ c.esc ≠ c.escEsc
      ∧ c.escDelim ≠ c.escEsc := by
  simp [framingOk]; tauto

@[simp] theorem stuff_nil (c : Cfg) : stuff c [] = [] := rfl

@[simp] theorem stuff_cons (c : Cfg) (b : Byte) (p : Bytes) : stuff c (b :: p) = stuffByte c b ++ stuff c p := rfl

theorem stuff_append (c : Cfg) (p q : Bytes) : stuff c (p ++ q) = stuff c p ++ stuff c q := by
  induction p with
  | nil => rfl
  | cons b p ih => simp [ih]

theorem stuffByte_ne_nil (c : Cfg) (b : Byte) : stuffByte c b ≠ [] := by
  unfold stuffByte; split <;> (try split) <;> simp

theorem delim_not_mem_stuff {c : Cfg} (h : framingOk c = true) (p : Bytes) : c.delim ∉ stuff c p := by
  obtain ⟨h1, h2, h3, -⟩ := (framingOk_iff c).1 h
  induction p with
  | nil => simp
  | cons b p ih =>
    simp only [stuff_cons, List.mem_append, not_or, ih, not_false_eq_true, and_true]
    unfold stuffByte
    split
    · simp [h1, h2]
    · split
      · simp [h1, h3]
      · simp; exact fun e => by simp_all

@[simp] theorem consResult_ok (b : Byte) (p : Bytes) : consResult b (.ok p) = .ok (b :: p) := rfl

@[simp] theorem consResult_error (b : Byte) (e : ResultCode) : consResult b (.error e) = .error e := rfl

/-- One token at the head of a body stands for one payload byte. -/
theorem unstuff_stuffByte_append {c : Cfg} (h : framingOk c = true) (b : Byte) (rest : Bytes) :
    unstuff c (stuffByte c b ++ rest) = consResult b (unstuff c rest) := by
  obtain ⟨h1, h2, h3, h4, h5, h6⟩ := (framingOk_iff c).1 h
  unfold stuffByte
  split
  · subst_vars
    simp [unstuff, Ne.symm h1]
  · split
    · subst_vars
      simp [unstuff, Ne.symm h1, Ne.symm h6]
    · cases rest <;> simp [unstuff, *]

/-- A stuffed payload in front of a body. -/
theorem unstuff_stuff_append {c : Cfg} (h : framingOk c = true) (p rest : Bytes) :
    unstuff c (stuff c p ++ rest) = p.foldr consResult (unstuff c rest) := by
  induction p with
  | nil => rfl
  | cons b p ih => simp [unstuff_stuffByte_append h, ih]

theorem foldr_consResult_ok (p q : Bytes) : p.foldr consResult (.ok q) = .ok (p ++ q) := by
  induction p with
  | nil => rfl
  | cons b p ih => simp [ih]

theorem foldr_consResult_error (p : Bytes) (e : ResultCode) : p.foldr consResult (.error e) = .error e := by
  induction p with
  | nil => rfl
  | cons b p ih => simp [ih]

theorem unstuff_stuff {c : Cfg} (h : framingOk c = true) (p : Bytes) : unstuff c (stuff c p) = .ok p := by
  have := unstuff_stuff_append h p []
  simpa [unstuff, foldr_consResult_ok] using this

/-- What `unstuff` accepts, or where it stops: the body is a stuffed payload, or a stuffed payload followed by a fault. -/
theorem unstuff_cases {c : Cfg} (h : framingOk c = true) (body : Bytes) :
    (∃ p, unstuff c body = .ok p ∧ body = stuff c p)
      ∨ (unstuff c body = .error .malformedFrame ∧
          ((∃ p rest, body = stuff c p ++ c.delim :: rest) ∨ (∃ p, body = stuff c p ++ [c.esc])
            ∨ ∃ p x rest, body = stuff c p ++ c.esc :: x :: rest ∧ x ≠ c.escDelim ∧ x ≠ c.escEsc)) := by
  obtain ⟨h1, h2, h3, h4, h5, h6⟩ := (framingOk_iff c).1 h
  have lift : ∀ (t : Bytes) (b : Byte) (body' rest : Bytes), t = stuffByte c b → body' = t ++ rest →
      unstuff c body' = consResult b (unstuff c rest) →
      ((∃ p, unstuff c rest = .ok p ∧ rest = stuff c p)
      ∨ (unstuff c rest = .error .malformedFrame ∧
          ((∃ p r, rest = stuff c p ++ c.delim :: r) ∨ (∃ p, rest = stuff c p ++ [c.esc])
            ∨ ∃ p x r, rest = stuff c p ++ c.esc :: x :: r ∧ x ≠ c.escDelim ∧ x ≠ c.escEsc))) →
      ((∃ p, unstuff c body' = .ok p ∧ body' = stuff c p)
      ∨ (unstuff c body' = .error .malformedFrame ∧
          ((∃ p r, body' = stuff c p ++ c.delim :: r) ∨ (∃ p, body' = stuff c p ++ [c.esc])
            ∨ ∃ p x r, body' = stuff c p ++ c.esc :: x :: r ∧ x ≠ c.escDelim ∧ x ≠ c.escEsc))) := by
    rintro t b body' rest rfl rfl hu (⟨p, hp, rfl⟩ | ⟨hp, ⟨p, r, rfl⟩ | ⟨p, rfl⟩ | ⟨p, x, r, rfl, hx⟩⟩)
    · exact .inl ⟨b :: p, by simp [hu, hp], by simp⟩
    · exact .inr ⟨by simp [hu, hp], .inl ⟨b :: p, r, by simp⟩⟩
    · exact .inr ⟨by simp [hu, hp], .inr (.inl ⟨b :: p, by simp⟩)⟩
    · exact .inr ⟨by simp [hu, hp], .inr (.inr ⟨b :: p, x, r, by simp, hx⟩)⟩
  induction body using unstuff.induct c with
  | case1 => exact .inl ⟨[], rfl, rfl⟩
  | case2 => exact .inr ⟨by simp [unstuff], .inl ⟨[], [], rfl⟩⟩
  | case3 hd => exact .inr ⟨by simp [unstuff], .inr (.inl ⟨[], rfl⟩)⟩
  | case4 b hd he => exact .inl ⟨[b], by simp [unstuff, hd, he], by simp [stuffByte, hd, he]⟩
  | case5 x rest => exact .inr ⟨by simp [unstuff], .inl ⟨[], _, rfl⟩⟩
  | case6 rest hd ih => exact lift _ c.delim _ rest (by simp [stuffByte]; rfl) rfl (by simp [unstuff, hd]) ih
  | case7 rest hd hx ih =>
    exact lift [c.esc, c.escEsc] c.esc _ rest (by simp [stuffByte, hd]) rfl (by simp [unstuff, hd, hx]) ih
  | case8 x rest hd hx hy => exact .inr ⟨by simp [unstuff, *], .inr (.inr ⟨[], x, rest, rfl, by assumption, by assumption⟩)⟩
  | case9 b x rest hd he ih =>
    exact lift [b] b _ (x :: rest) (by simp [stuffByte, hd, he]) rfl (by rw [unstuff]; simp [hd, he]) ih

/-! ### Packet codec -/

theorem extractLsb'_append_high {m n : Nat} (x : BitVec m) (y : BitVec n) : (x ++ y).extractLsb' n m = x := by
  ext i hi; simp [BitVec.getLsbD_append, hi]

theorem extractLsb'_append_low {m n : Nat} (x : BitVec m) (y : BitVec n) : (x ++ y).extractLsb' 0 n = y := by
  ext i hi; simp [BitVec.getLsbD_append, hi]

theorem headerLength_header (type : BitVec 4) (len : BitVec 12) :
    headerLength (headerByte1 type len) (headerByte2 len) = len := by
  unfold headerLength headerByte1 headerByte2
  rw [extractLsb'_append_high]
  ext i hi
  simp only [BitVec.getElem_append, BitVec.getElem_extractLsb', Nat.zero_add]
  split <;> simp_all [BitVec.getLsbD_eq_getElem] 

theorem headerByte0_fields (seq ack : BitVec 3) (integrity reliable : Bool) :
    (headerByte0 seq ack integrity reliable).extractLsb' 0 3 = seq
      ∧ (headerByte0 seq ack integrity reliable).extractLsb' 3 3 = ack
      ∧ (headerByte0 seq ack integrity reliable).getLsbD 6 = integrity
      ∧ (headerByte0 seq ack integrity reliable).getLsbD 7 = reliable := by
  revert seq ack integrity reliable; decide

theorem headerByte0_of_fields (b : Byte) :
    headerByte0 (b.extractLsb' 0 3) (b.extractLsb' 3 3) (b.getLsbD 6) (b.getLsbD 7) = b := by
  revert b; decide

theorem headerByte1_type (type : BitVec 4) (len : BitVec 12) : (headerByte1 type len).extractLsb' 0 4 = type :=
  extractLsb'_append_low _ _

theorem headerBytes_of_length (b1 b2 : Byte) :
    headerByte1 (b1.extractLsb' 0 4) (headerLength b1 b2) = b1 ∧ headerByte2 (headerLength b1 b2) = b2 := by
  unfold headerByte1 headerByte2 headerLength
  refine ⟨?_, extractLsb'_append_high _ _⟩
  rw [extractLsb'_append_low]
  revert b1; decide

theorem headerByte0_toNat (seq ack : BitVec 3) (integrity reliable : Bool) :
    (headerByte0 seq ack integrity reliable).toNat
      = seq.toNat + 8 * ack.toNat + 64 * integrity.toNat + 128 * reliable.toNat := by
  revert seq ack integrity reliable; decide

theorem headerByte1_toNat (type : BitVec 4) (len : BitVec 12) :
    (headerByte1 type len).toNat = type.toNat + 16 * (len.toNat % 16) := by
  have h : ∀ l t : BitVec 4, (l ++ t).toNat = t.toNat + 16 * l.toNat := by decide
  simp [headerByte1, h, BitVec.extractLsb'_toNat]

theorem headerByte2_toNat (len : BitVec 12) : (headerByte2 len).toNat = len.toNat / 16 := by
  have := len.isLt
  simp [headerByte2, BitVec.extractLsb'_toNat, Nat.shiftRight_eq_div_pow]; omega

theorem headerLength_toNat (b1 b2 : Byte) : (headerLength b1 b2).toNat = b1.toNat / 16 + 16 * b2.toNat := by
  have h : ∀ b : Byte, (b.extractLsb' 4 4).toNat = b.toNat / 16 := by decide
  have := (b1.extractLsb' 4 4).isLt
  rw [headerLength, BitVec.toNat_append, ← Nat.shiftLeft_add_eq_or_of_lt this, h, Nat.shiftLeft_eq]
  omega

/-- The record a packet with these fields decodes to. -/
def recordOf (c : Cfg) (p : Bytes) (seq ack : BitVec 3) (reliable integrity : Bool) (type : BitVec 4) : Packet :=
  let len := BitVec.ofNat 12 p.length
  let b0 := headerByte0 seq ack integrity reliable
  { payload := p, seq := seq, ack := ack, integrityChecked := integrity, payloadLength := len,
    headerChecksum := hdrChecksum c b0 (headerByte1 type len) (headerByte2 len), reliable := reliable, type := type }

@[simp] theorem integrityFn_length (c : Cfg) (k : Bytes) : (integrityFn c k).length = c.integrityLen := by
  simp [integrityFn]

/-- PKT.DECODE inverts the construction of R150. -/
theorem decodePkt_buildPacket (c : Cfg) (p : Bytes) (seq ack : BitVec 3) (reliable integrity : Bool) (type : BitVec 4)
    (hp : p.length ≤ 4095) :
    decodePkt c (buildPacket c p seq ack reliable integrity type) = .ok (recordOf c p seq ack reliable integrity type) := by
  obtain ⟨h0, h1, h2, h3⟩ := headerByte0_fields seq ack integrity reliable
  have hl : (BitVec.ofNat 12 p.length).toNat = p.length := by simp; omega
  have ht := headerLength_header type (BitVec.ofNat 12 p.length)
  have hty := headerByte1_type type (BitVec.ofNat 12 p.length)
  simp only [BitVec.getLsbD_eq_getElem, Nat.reduceLT] at h2 h3
  cases integrity <;>
    simp [buildPacket, header, decodePkt, trailerLength, packetOf, recordOf, Config.headerLen, Nat.add_comm 4, *]

/-- What PKT.DECODE accepts is the packet of R150 with the record's fields, whose declared length is the payload's (R99). -/
theorem buildPacket_of_decodePkt {c : Cfg} {k : Bytes} {d : Packet} (h : decodePkt c k = .ok d) :
    buildPacket c d.payload d.seq d.ack d.reliable d.integrityChecked d.type = k
      ∧ d = recordOf c d.payload d.seq d.ack d.reliable d.integrityChecked d.type ∧ d.payload.length ≤ 4095 := by
  match k with
  | [] => simp [decodePkt] at h
  | [_] => simp [decodePkt] at h
  | [_, _] => simp [decodePkt] at h
  | [_, _, _] => simp [decodePkt] at h
  | b0 :: b1 :: b2 :: b3 :: rest =>
    obtain ⟨hb1, hb2⟩ := headerBytes_of_length b1 b2
    have hb0 := headerByte0_of_fields b0
    have hlt := (headerLength b1 b2).isLt
    simp only [decodePkt] at h
    split at h; · simp at h
    rename_i hc
    split at h; · simp at h
    rename_i hlen
    split at h; · simp at h
    rename_i hi
    simp only [Except.ok.injEq] at h
    simp only [ne_eq, Decidable.not_not] at hc hlen
    have hpl : (rest.take (headerLength b1 b2).toNat).length = (headerLength b1 b2).toNat := by
      rw [List.length_take]; omega
    have hof : BitVec.ofNat 12 (rest.take (headerLength b1 b2).toNat).length = headerLength b1 b2 := by
      rw [hpl]; simp
    subst h
    refine ⟨?_, ?_, ?_⟩
    · simp only [packetOf, buildPacket, header, hof, hb0, hb1, hb2, ← hc]
      by_cases hd : b0.getLsbD 6 = true
      · simp only [hd, true_and, ne_eq, Decidable.not_not] at hi
        simp only [hd, if_true, List.cons_append, List.nil_append]
        have := List.take_append_drop (headerLength b1 b2).toNat rest
        simp only [Config.headerLen, Nat.add_comm 4, List.take_succ_cons] at hi
        rw [← hi]; simp
      · simp only [hd, if_false, trailerLength, Nat.add_zero, List.cons_append, List.nil_append, Bool.false_eq_true] at *
        rw [List.take_of_length_le (by omega)]
    · simp only [recordOf, hof, packetOf, hb0, hb1, hb2, hc]
    · simp only [packetOf]; omega

end Sys2Proof.Machine
end

