-- ==== Sys2Proof/Laws/Ops.lean ====
section
/-! SUPPORT. What the shared operations can do, said once: guards, `enter` (R176), the dispatch table (R140), RX.FRAME (R139), RX.BYTE
(R138), and that every operation answers a next state. -/

namespace Sys2Proof.Machine

open Safety

/-! ### Guards and totality -/

@[simp] theorem State.guarded_true (s t : State) : s.guarded true t = .next t := rfl

@[simp] theorem State.guarded_false (s t : State) : s.guarded false t = .next s := rfl

/-- A guarded step fires or leaves the state as it is. -/
theorem State.guarded_next {s t u : State} {g : Bool} (h : s.guarded g t = .next u) : (g = true ∧ u = t) ∨ (g = false ∧ u = s) := by
  cases g
  · exact .inr ⟨rfl, by simpa using h.symm⟩
  · exact .inl ⟨rfl, by simpa using h.symm⟩

/-- Every operation answers a next state: none of them stops. -/
theorem exec_total (i : Instr) (s : State) : ∃ t, exec i s = .next t := by
  cases i with
  | rxByte => simp only [exec, execRxByte]; split <;> exact ⟨_, rfl⟩
  | _ => exact ⟨_, rfl⟩

/-! ### Answers of the transport -/

@[simp] theorem State.nextAnswer_cons {s : State} {a : Answer} {l : List Answer} (h : s.answers = a :: l) : s.nextAnswer = a := by
  simp [State.nextAnswer, h]

/-- The environment's next answer, where it has listed one, is the answer. -/
theorem State.nextAnswer_of_head (s : State) (x : Answer) (h : s.answers.head? = some x) : s.nextAnswer = x := by
  unfold State.nextAnswer
  split <;> simp_all

/-! ### `enter` -/

@[simp] theorem State.entryAction_cfg (st : ConnState) (s : State) : (s.entryAction st).cfg = s.cfg := by cases st <;> rfl

@[simp] theorem State.entryAction_linkOpen (st : ConnState) (s : State) : (s.entryAction st).linkOpen = s.linkOpen := by cases st <;> rfl

@[simp] theorem State.entryAction_txRetryCnt (st : ConnState) (s : State) : (s.entryAction st).txRetryCnt = s.txRetryCnt := by cases st <;> rfl

@[simp] theorem State.entryAction_errCount (st : ConnState) (s : State) : (s.entryAction st).errCount = s.errCount := by cases st <;> rfl

@[simp] theorem State.entryAction_closePending (st : ConnState) (s : State) : (s.entryAction st).closePending = s.closePending := by cases st <;> rfl

@[simp] theorem State.entryAction_txBusy (st : ConnState) (s : State) : (s.entryAction st).txBusy = s.txBusy := by cases st <;> rfl

@[simp] theorem State.entryAction_txFrame (st : ConnState) (s : State) : (s.entryAction st).txFrame = s.txFrame := by cases st <;> rfl

@[simp] theorem State.entryAction_rxSync (st : ConnState) (s : State) : (s.entryAction st).rxSync = s.rxSync := by cases st <;> rfl

@[simp] theorem State.entryAction_rxBuf (st : ConnState) (s : State) : (s.entryAction st).rxBuf = s.rxBuf := by cases st <;> rfl

@[simp] theorem State.entryAction_rxOvf (st : ConnState) (s : State) : (s.entryAction st).rxOvf = s.rxOvf := by cases st <;> rfl

@[simp] theorem State.entryAction_tTx (st : ConnState) (s : State) : (s.entryAction st).tTx = s.tTx := by cases st <;> rfl

@[simp] theorem State.entryAction_flt (st : ConnState) (s : State) : (s.entryAction st).flt = s.flt := by cases st <;> rfl

@[simp] theorem State.entryAction_inbound (st : ConnState) (s : State) : (s.entryAction st).inbound = s.inbound := by cases st <;> rfl

@[simp] theorem State.entryAction_hcWait (st : ConnState) (s : State) : (s.entryAction st).hcWait = s.hcWait := by cases st <;> rfl

@[simp] theorem State.entryAction_agenda (st : ConnState) (s : State) : (s.entryAction st).agenda = s.agenda := by cases st <;> rfl

@[simp] theorem State.completeOpen_cfg (st : ConnState) (s : State) : (s.completeOpen st).cfg = s.cfg := by
  unfold State.completeOpen; split <;> (try split) <;> rfl

@[simp] theorem State.completeOpen_state (st : ConnState) (s : State) : (s.completeOpen st).state = s.state := by
  unfold State.completeOpen; split <;> (try split) <;> rfl

@[simp] theorem State.completeOpen_linkOpen (st : ConnState) (s : State) : (s.completeOpen st).linkOpen = s.linkOpen := by
  unfold State.completeOpen; split <;> (try split) <;> rfl

@[simp] theorem State.completeOpen_seqNum (st : ConnState) (s : State) : (s.completeOpen st).seqNum = s.seqNum := by
  unfold State.completeOpen; split <;> (try split) <;> rfl

@[simp] theorem State.completeOpen_ackNum (st : ConnState) (s : State) : (s.completeOpen st).ackNum = s.ackNum := by
  unfold State.completeOpen; split <;> (try split) <;> rfl

@[simp] theorem State.completeOpen_retryCnt (st : ConnState) (s : State) : (s.completeOpen st).retryCnt = s.retryCnt := by
  unfold State.completeOpen; split <;> (try split) <;> rfl

@[simp] theorem State.completeOpen_txRetryCnt (st : ConnState) (s : State) : (s.completeOpen st).txRetryCnt = s.txRetryCnt := by
  unfold State.completeOpen; split <;> (try split) <;> rfl

@[simp] theorem State.completeOpen_errCount (st : ConnState) (s : State) : (s.completeOpen st).errCount = s.errCount := by
  unfold State.completeOpen; split <;> (try split) <;> rfl

@[simp] theorem State.completeOpen_exit (st : ConnState) (s : State) : (s.completeOpen st).exit = s.exit := by
  unfold State.completeOpen; split <;> (try split) <;> rfl

@[simp] theorem State.completeOpen_closePending (st : ConnState) (s : State) : (s.completeOpen st).closePending = s.closePending := by
  unfold State.completeOpen; split <;> (try split) <;> rfl

@[simp] theorem State.completeOpen_txBusy (st : ConnState) (s : State) : (s.completeOpen st).txBusy = s.txBusy := by
  unfold State.completeOpen; split <;> (try split) <;> rfl

@[simp] theorem State.completeOpen_txFrame (st : ConnState) (s : State) : (s.completeOpen st).txFrame = s.txFrame := by
  unfold State.completeOpen; split <;> (try split) <;> rfl

@[simp] theorem State.completeOpen_rxSync (st : ConnState) (s : State) : (s.completeOpen st).rxSync = s.rxSync := by
  unfold State.completeOpen; split <;> (try split) <;> rfl

@[simp] theorem State.completeOpen_rxBuf (st : ConnState) (s : State) : (s.completeOpen st).rxBuf = s.rxBuf := by
  unfold State.completeOpen; split <;> (try split) <;> rfl

@[simp] theorem State.completeOpen_rxOvf (st : ConnState) (s : State) : (s.completeOpen st).rxOvf = s.rxOvf := by
  unfold State.completeOpen; split <;> (try split) <;> rfl

@[simp] theorem State.completeOpen_tSm (st : ConnState) (s : State) : (s.completeOpen st).tSm = s.tSm := by
  unfold State.completeOpen; split <;> (try split) <;> rfl

@[simp] theorem State.completeOpen_tTx (st : ConnState) (s : State) : (s.completeOpen st).tTx = s.tTx := by
  unfold State.completeOpen; split <;> (try split) <;> rfl

@[simp] theorem State.completeOpen_flt (st : ConnState) (s : State) : (s.completeOpen st).flt = s.flt := by
  unfold State.completeOpen; split <;> (try split) <;> rfl

@[simp] theorem State.completeOpen_inbound (st : ConnState) (s : State) : (s.completeOpen st).inbound = s.inbound := by
  unfold State.completeOpen; split <;> (try split) <;> rfl

@[simp] theorem State.completeOpen_hcWait (st : ConnState) (s : State) : (s.completeOpen st).hcWait = s.hcWait := by
  unfold State.completeOpen; split <;> (try split) <;> rfl

@[simp] theorem State.completeOpen_answers (st : ConnState) (s : State) : (s.completeOpen st).answers = s.answers := by
  unfold State.completeOpen; split <;> (try split) <;> rfl

@[simp] theorem State.completeOpen_agenda (st : ConnState) (s : State) : (s.completeOpen st).agenda = s.agenda := by
  unfold State.completeOpen; split <;> (try split) <;> rfl

@[simp] theorem State.enter_cfg (st : ConnState) (c : Cause) (s : State) : (s.enter st c).cfg = s.cfg := by simp [State.enter]

@[simp] theorem State.enter_linkOpen (st : ConnState) (c : Cause) (s : State) : (s.enter st c).linkOpen = s.linkOpen := by simp [State.enter]

@[simp] theorem State.enter_txRetryCnt (st : ConnState) (c : Cause) (s : State) : (s.enter st c).txRetryCnt = s.txRetryCnt := by simp [State.enter]

@[simp] theorem State.enter_errCount (st : ConnState) (c : Cause) (s : State) : (s.enter st c).errCount = s.errCount := by simp [State.enter]

@[simp] theorem State.enter_closePending (st : ConnState) (c : Cause) (s : State) : (s.enter st c).closePending = s.closePending := by simp [State.enter]

@[simp] theorem State.enter_txBusy (st : ConnState) (c : Cause) (s : State) : (s.enter st c).txBusy = s.txBusy := by simp [State.enter]

@[simp] theorem State.enter_txFrame (st : ConnState) (c : Cause) (s : State) : (s.enter st c).txFrame = s.txFrame := by simp [State.enter]

@[simp] theorem State.enter_rxSync (st : ConnState) (c : Cause) (s : State) : (s.enter st c).rxSync = s.rxSync := by simp [State.enter]

@[simp] theorem State.enter_rxBuf (st : ConnState) (c : Cause) (s : State) : (s.enter st c).rxBuf = s.rxBuf := by simp [State.enter]

@[simp] theorem State.enter_rxOvf (st : ConnState) (c : Cause) (s : State) : (s.enter st c).rxOvf = s.rxOvf := by simp [State.enter]

@[simp] theorem State.enter_tTx (st : ConnState) (c : Cause) (s : State) : (s.enter st c).tTx = s.tTx := by simp [State.enter]

@[simp] theorem State.enter_flt (st : ConnState) (c : Cause) (s : State) : (s.enter st c).flt = s.flt := by simp [State.enter]

@[simp] theorem State.enter_inbound (st : ConnState) (c : Cause) (s : State) : (s.enter st c).inbound = s.inbound := by simp [State.enter]

@[simp] theorem State.enter_hcWait (st : ConnState) (c : Cause) (s : State) : (s.enter st c).hcWait = s.hcWait := by simp [State.enter]

@[simp] theorem State.enter_agenda (st : ConnState) (c : Cause) (s : State) : (s.enter st c).agenda = s.agenda := by simp [State.enter]

@[simp] theorem State.enter_state (st : ConnState) (c : Cause) (s : State) : (s.enter st c).state = st := by
  simp only [State.enter, State.completeOpen_state]; cases st <;> rfl

/-- `enter(RESET, c)` (R176, R180). -/
theorem State.enter_reset (c : Cause) (s : State) : ∃ a n, mayAnswer s a ∧
    s.enter .reset c = { s with
      state := .reset
      exit := { ExitFlags.zero with resetSent := true, ioError := s.exit.ioError || a == .err, close := s.exit.close }
      tSm := ⟨true, BitVec.ofNat 16 (ticks s.cfg s.cfg.resetSettle)⟩
      out := s.out ++ [.up (.status .reset c), .tq (.tSend (resetFrameOf s.cfg)) a]
      answers := s.answers.tail, freeCount := n } := by
  refine ⟨(s.disarm .sm).nextAnswer, (s.disarm .sm).countAfterRequest, fun x hx => by apply State.nextAnswer_of_head; exact hx, ?_⟩
  cases h : s.answers <;>
    simp [State.enter, State.entryAction, State.completeOpen, openResult, State.arm, State.disarm, State.setTimer, State.put,
    State.emit, State.request, State.noteAnswer, ExitFlags.clearPerState, ExitFlags.zero,
      State.nextAnswer, State.countAfterRequest, h]

/-- `enter(UNINITIALIZED, c)` (R176). -/
theorem State.enter_uninitialized (c : Cause) (s : State) : ∃ a n, mayAnswer s a ∧
    s.enter .uninitialized c = { s with
      state := .uninitialized
      exit := { ExitFlags.zero with ioError := s.exit.ioError || a == .err, close := s.exit.close }
      retryCnt := fullBudget s.cfg
      tSm := ⟨true, BitVec.ofNat 16 (ticks s.cfg s.cfg.retxInterval)⟩
      out := s.out ++ [.up (.status .uninitialized c), .tq (.tSend (syncFrameOf s.cfg)) a]
      answers := s.answers.tail, freeCount := n } := by
  refine ⟨(s.disarm .sm).nextAnswer, (s.disarm .sm).countAfterRequest, fun x hx => by apply State.nextAnswer_of_head; exact hx, ?_⟩
  cases h : s.answers <;>
    simp [State.enter, State.entryAction, State.completeOpen, openResult, State.arm, State.disarm, State.setTimer, State.put,
    State.emit, State.request, State.noteAnswer, ExitFlags.clearPerState, ExitFlags.zero,
      State.nextAnswer, State.countAfterRequest, h]

/-- `enter(INITIALIZED, c)` (R176). -/
theorem State.enter_initialized (c : Cause) (s : State) : ∃ a n, mayAnswer s a ∧
    s.enter .initialized c = { s with
      state := .initialized
      exit := { ExitFlags.zero with ioError := s.exit.ioError || a == .err, close := s.exit.close }
      retryCnt := fullBudget s.cfg
      tSm := ⟨true, BitVec.ofNat 16 (ticks s.cfg s.cfg.retxInterval)⟩
      out := s.out ++ [.up (.status .initialized c), .tq (.tSend (configFrameOf s.cfg)) a]
      answers := s.answers.tail, freeCount := n } := by
  refine ⟨(s.disarm .sm).nextAnswer, (s.disarm .sm).countAfterRequest, fun x hx => by apply State.nextAnswer_of_head; exact hx, ?_⟩
  cases h : s.answers <;>
    simp [State.enter, State.entryAction, State.completeOpen, openResult, State.arm, State.disarm, State.setTimer, State.put,
    State.emit, State.request, State.noteAnswer, ExitFlags.clearPerState, ExitFlags.zero,
      State.nextAnswer, State.countAfterRequest, h]

/-- `enter(ACTIVE, c)` (R176, R210). -/
theorem State.enter_active (c : Cause) (s : State) : ∃ r1 r2 n,
    s.enter .active c = { s with
      state := .active, exit := s.exit.clearPerState, seqNum := 0, ackNum := 0, tSm := ⟨false, r1⟩, openPending := false
      tOpen := if s.openPending then ⟨false, r2⟩ else s.tOpen
      out := s.out ++ [.up (.status .active c)] ++ (if s.openPending then [.hr .opn .ok] else []), freeCount := n } := by
  refine ⟨Config.freeRem s.freeCount, Config.freeRem (s.freeCount + 1), if s.openPending then s.freeCount + 2 else s.freeCount + 1, ?_⟩
  cases h : s.openPending <;>
    simp [State.enter, State.entryAction, State.completeOpen, openResult, State.disarm, State.setTimer, State.put, h]

/-- `enter` of a terminal state (R176, R254). -/
theorem State.enter_terminal (st : ConnState) (r : ResultCode) (hst : isTerminal st = true) (hr : openResult st = some r)
    (c : Cause) (s : State) : ∃ r1 r2 n,
    s.enter st c = { s with
      state := st, exit := s.exit.clearPerState, tSm := ⟨false, r1⟩, openPending := false
      tOpen := if s.openPending then ⟨false, r2⟩ else s.tOpen
      out := s.out ++ [.up (.status st c)] ++ (if s.openPending then [.hr .opn r] else []), freeCount := n } := by
  have he : ∀ u : State, u.entryAction st = u := by intro u; cases st <;> simp_all [State.entryAction, isTerminal]
  refine ⟨Config.freeRem s.freeCount, Config.freeRem (s.freeCount + 1), if s.openPending then s.freeCount + 2 else s.freeCount + 1, ?_⟩
  cases h : s.openPending <;> simp [State.enter, he, State.completeOpen, hr, State.disarm, State.setTimer, State.put, h]

/-! ### Receive path -/

/-- `emit` (R68) as one update. -/
theorem State.emit_eq (f : Bytes) (s : State) : s.emit f = { s with
    out := s.out ++ [.tq (.tSend f) s.nextAnswer], answers := s.answers.tail, freeCount := s.countAfterRequest
    exit := { s.exit with ioError := s.exit.ioError || s.nextAnswer == .err } } := rfl

/-- Every cell of the dispatch table (R140). -/
theorem State.dispatch_cases (k : PacketKind) (d : Packet) (s : State) :
    s.dispatch k d = s
      ∨ (s.dispatch k d = s.notePeerResponded ∧ (s.state = .uninitialized ∨ s.state = .initialized))
      ∨ (s.dispatch k d = s.onSyncActive ∧ s.state = .active)
      ∨ (s.dispatch k d = s.emit (syncRspFrameOf s.cfg) ∧ (s.state = .uninitialized ∨ s.state = .initialized))
      ∨ (s.dispatch k d = s.emit (configRspFrameOf s.cfg) ∧ (s.state = .initialized ∨ s.state = .active))
      ∨ (s.dispatch k d = s.onAck d ∧ s.state = .active)
      ∨ (s.dispatch k d = s.onData d ∧ s.state = .active) := by
  cases k <;> cases h : s.state <;>
    simp [State.dispatch, State.dispatchSync, State.dispatchSyncRsp, State.dispatchConfig, State.dispatchConfigRsp,
      State.dispatchAck, State.dispatchData, h]

/-- The three cases of an acknowledgement (R220). -/
theorem State.onAck_cases (d : Packet) (s : State) :
    (s.onAck d = s ∧ d.ack = s.seqNum)
      ∨ s.onAck d = { s with exit := { s.exit with syncError := true } }
      ∨ (s.onAck d = { s with seqNum := seqIncr s.seqNum } ∧ s.txBusy = false)
      ∨ (s.onAck d = { s with seqNum := seqIncr s.seqNum }.endSend .ok ∧ s.txBusy = true) := by
  unfold State.onAck
  split
  · cases hb : s.txBusy <;> simp
  · split
    · exact .inl ⟨rfl, ‹_›⟩
    · exact .inr (.inl rfl)

/-- The two cases of a data packet (R224). -/
theorem State.onData_cases (d : Packet) (s : State) :
    (s.onData d = ({ s with ackNum := seqIncr s.ackNum }.emit (ackFrameOf s.cfg (seqIncr s.ackNum))).deliver d.payload
        ∧ d.seq = s.ackNum)
      ∨ (s.onData d = s.emit (ackFrameOf s.cfg s.ackNum) ∧ d.seq ≠ s.ackNum) := by
  unfold State.onData
  split <;> simp [*]

/-- A chunk is a counted error or is dispatched (R139). -/
theorem State.rxFrame_cases (chunk : Bytes) (ovf : Bool) (s : State) :
    (∃ e, s.rxFrame chunk ovf = s.countError e) ∨ ∃ k d, s.rxFrame chunk ovf = s.dispatch k d := by
  unfold State.rxFrame
  split
  · exact .inl ⟨_, rfl⟩
  · split
    · exact .inl ⟨_, rfl⟩
    · split
      · exact .inl ⟨_, rfl⟩
      · exact .inr ⟨_, _, rfl⟩

@[simp] theorem State.dispatch_cfg (k : PacketKind) (d : Packet) (s : State) : (s.dispatch k d).cfg = s.cfg := by
  rcases s.dispatch_cases k d with h | ⟨h, -⟩ | ⟨h, -⟩ | ⟨h, -⟩ | ⟨h, -⟩ | ⟨h, -⟩ | ⟨h, -⟩ <;> rw [h] <;> try rfl
  · rcases s.onAck_cases d with ⟨h, -⟩ | h | ⟨h, -⟩ | ⟨h, -⟩ <;> exact (congrArg State.cfg h).trans rfl
  · rcases s.onData_cases d with ⟨h, -⟩ | ⟨h, -⟩ <;> exact (congrArg State.cfg h).trans rfl

@[simp] theorem State.dispatch_state (k : PacketKind) (d : Packet) (s : State) : (s.dispatch k d).state = s.state := by
  rcases s.dispatch_cases k d with h | ⟨h, -⟩ | ⟨h, -⟩ | ⟨h, -⟩ | ⟨h, -⟩ | ⟨h, -⟩ | ⟨h, -⟩ <;> rw [h] <;> try rfl
  · rcases s.onAck_cases d with ⟨h, -⟩ | h | ⟨h, -⟩ | ⟨h, -⟩ <;> exact (congrArg State.state h).trans rfl
  · rcases s.onData_cases d with ⟨h, -⟩ | ⟨h, -⟩ <;> exact (congrArg State.state h).trans rfl

@[simp] theorem State.dispatch_linkOpen (k : PacketKind) (d : Packet) (s : State) : (s.dispatch k d).linkOpen = s.linkOpen := by
  rcases s.dispatch_cases k d with h | ⟨h, -⟩ | ⟨h, -⟩ | ⟨h, -⟩ | ⟨h, -⟩ | ⟨h, -⟩ | ⟨h, -⟩ <;> rw [h] <;> try rfl
  · rcases s.onAck_cases d with ⟨h, -⟩ | h | ⟨h, -⟩ | ⟨h, -⟩ <;> exact (congrArg State.linkOpen h).trans rfl
  · rcases s.onData_cases d with ⟨h, -⟩ | ⟨h, -⟩ <;> exact (congrArg State.linkOpen h).trans rfl

@[simp] theorem State.dispatch_retryCnt (k : PacketKind) (d : Packet) (s : State) : (s.dispatch k d).retryCnt = s.retryCnt := by
  rcases s.dispatch_cases k d with h | ⟨h, -⟩ | ⟨h, -⟩ | ⟨h, -⟩ | ⟨h, -⟩ | ⟨h, -⟩ | ⟨h, -⟩ <;> rw [h] <;> try rfl
  · rcases s.onAck_cases d with ⟨h, -⟩ | h | ⟨h, -⟩ | ⟨h, -⟩ <;> exact (congrArg State.retryCnt h).trans rfl
  · rcases s.onData_cases d with ⟨h, -⟩ | ⟨h, -⟩ <;> exact (congrArg State.retryCnt h).trans rfl

@[simp] theorem State.dispatch_txRetryCnt (k : PacketKind) (d : Packet) (s : State) : (s.dispatch k d).txRetryCnt = s.txRetryCnt := by
  rcases s.dispatch_cases k d with h | ⟨h, -⟩ | ⟨h, -⟩ | ⟨h, -⟩ | ⟨h, -⟩ | ⟨h, -⟩ | ⟨h, -⟩ <;> rw [h] <;> try rfl
  · rcases s.onAck_cases d with ⟨h, -⟩ | h | ⟨h, -⟩ | ⟨h, -⟩ <;> exact (congrArg State.txRetryCnt h).trans rfl
  · rcases s.onData_cases d with ⟨h, -⟩ | ⟨h, -⟩ <;> exact (congrArg State.txRetryCnt h).trans rfl

@[simp] theorem State.dispatch_errCount (k : PacketKind) (d : Packet) (s : State) : (s.dispatch k d).errCount = s.errCount := by
  rcases s.dispatch_cases k d with h | ⟨h, -⟩ | ⟨h, -⟩ | ⟨h, -⟩ | ⟨h, -⟩ | ⟨h, -⟩ | ⟨h, -⟩ <;> rw [h] <;> try rfl
  · rcases s.onAck_cases d with ⟨h, -⟩ | h | ⟨h, -⟩ | ⟨h, -⟩ <;> exact (congrArg State.errCount h).trans rfl
  · rcases s.onData_cases d with ⟨h, -⟩ | ⟨h, -⟩ <;> exact (congrArg State.errCount h).trans rfl

@[simp] theorem State.dispatch_openPending (k : PacketKind) (d : Packet) (s : State) : (s.dispatch k d).openPending = s.openPending := by
  rcases s.dispatch_cases k d with h | ⟨h, -⟩ | ⟨h, -⟩ | ⟨h, -⟩ | ⟨h, -⟩ | ⟨h, -⟩ | ⟨h, -⟩ <;> rw [h] <;> try rfl
  · rcases s.onAck_cases d with ⟨h, -⟩ | h | ⟨h, -⟩ | ⟨h, -⟩ <;> exact (congrArg State.openPending h).trans rfl
  · rcases s.onData_cases d with ⟨h, -⟩ | ⟨h, -⟩ <;> exact (congrArg State.openPending h).trans rfl

@[simp] theorem State.dispatch_closePending (k : PacketKind) (d : Packet) (s : State) : (s.dispatch k d).closePending = s.closePending := by
  rcases s.dispatch_cases k d with h | ⟨h, -⟩ | ⟨h, -⟩ | ⟨h, -⟩ | ⟨h, -⟩ | ⟨h, -⟩ | ⟨h, -⟩ <;> rw [h] <;> try rfl
  · rcases s.onAck_cases d with ⟨h, -⟩ | h | ⟨h, -⟩ | ⟨h, -⟩ <;> exact (congrArg State.closePending h).trans rfl
  · rcases s.onData_cases d with ⟨h, -⟩ | ⟨h, -⟩ <;> exact (congrArg State.closePending h).trans rfl

@[simp] theorem State.dispatch_rxSync (k : PacketKind) (d : Packet) (s : State) : (s.dispatch k d).rxSync = s.rxSync := by
  rcases s.dispatch_cases k d with h | ⟨h, -⟩ | ⟨h, -⟩ | ⟨h, -⟩ | ⟨h, -⟩ | ⟨h, -⟩ | ⟨h, -⟩ <;> rw [h] <;> try rfl
  · rcases s.onAck_cases d with ⟨h, -⟩ | h | ⟨h, -⟩ | ⟨h, -⟩ <;> exact (congrArg State.rxSync h).trans rfl
  · rcases s.onData_cases d with ⟨h, -⟩ | ⟨h, -⟩ <;> exact (congrArg State.rxSync h).trans rfl

@[simp] theorem State.dispatch_rxBuf (k : PacketKind) (d : Packet) (s : State) : (s.dispatch k d).rxBuf = s.rxBuf := by
  rcases s.dispatch_cases k d with h | ⟨h, -⟩ | ⟨h, -⟩ | ⟨h, -⟩ | ⟨h, -⟩ | ⟨h, -⟩ | ⟨h, -⟩ <;> rw [h] <;> try rfl
  · rcases s.onAck_cases d with ⟨h, -⟩ | h | ⟨h, -⟩ | ⟨h, -⟩ <;> exact (congrArg State.rxBuf h).trans rfl
  · rcases s.onData_cases d with ⟨h, -⟩ | ⟨h, -⟩ <;> exact (congrArg State.rxBuf h).trans rfl

@[simp] theorem State.dispatch_rxOvf (k : PacketKind) (d : Packet) (s : State) : (s.dispatch k d).rxOvf = s.rxOvf := by
  rcases s.dispatch_cases k d with h | ⟨h, -⟩ | ⟨h, -⟩ | ⟨h, -⟩ | ⟨h, -⟩ | ⟨h, -⟩ | ⟨h, -⟩ <;> rw [h] <;> try rfl
  · rcases s.onAck_cases d with ⟨h, -⟩ | h | ⟨h, -⟩ | ⟨h, -⟩ <;> exact (congrArg State.rxOvf h).trans rfl
  · rcases s.onData_cases d with ⟨h, -⟩ | ⟨h, -⟩ <;> exact (congrArg State.rxOvf h).trans rfl

@[simp] theorem State.dispatch_tSm (k : PacketKind) (d : Packet) (s : State) : (s.dispatch k d).tSm = s.tSm := by
  rcases s.dispatch_cases k d with h | ⟨h, -⟩ | ⟨h, -⟩ | ⟨h, -⟩ | ⟨h, -⟩ | ⟨h, -⟩ | ⟨h, -⟩ <;> rw [h] <;> try rfl
  · rcases s.onAck_cases d with ⟨h, -⟩ | h | ⟨h, -⟩ | ⟨h, -⟩ <;> exact (congrArg State.tSm h).trans rfl
  · rcases s.onData_cases d with ⟨h, -⟩ | ⟨h, -⟩ <;> exact (congrArg State.tSm h).trans rfl

@[simp] theorem State.dispatch_tOpen (k : PacketKind) (d : Packet) (s : State) : (s.dispatch k d).tOpen = s.tOpen := by
  rcases s.dispatch_cases k d with h | ⟨h, -⟩ | ⟨h, -⟩ | ⟨h, -⟩ | ⟨h, -⟩ | ⟨h, -⟩ | ⟨h, -⟩ <;> rw [h] <;> try rfl
  · rcases s.onAck_cases d with ⟨h, -⟩ | h | ⟨h, -⟩ | ⟨h, -⟩ <;> exact (congrArg State.tOpen h).trans rfl
  · rcases s.onData_cases d with ⟨h, -⟩ | ⟨h, -⟩ <;> exact (congrArg State.tOpen h).trans rfl

@[simp] theorem State.dispatch_flt (k : PacketKind) (d : Packet) (s : State) : (s.dispatch k d).flt = s.flt := by
  rcases s.dispatch_cases k d with h | ⟨h, -⟩ | ⟨h, -⟩ | ⟨h, -⟩ | ⟨h, -⟩ | ⟨h, -⟩ | ⟨h, -⟩ <;> rw [h] <;> try rfl
  · rcases s.onAck_cases d with ⟨h, -⟩ | h | ⟨h, -⟩ | ⟨h, -⟩ <;> exact (congrArg State.flt h).trans rfl
  · rcases s.onData_cases d with ⟨h, -⟩ | ⟨h, -⟩ <;> exact (congrArg State.flt h).trans rfl

@[simp] theorem State.dispatch_inbound (k : PacketKind) (d : Packet) (s : State) : (s.dispatch k d).inbound = s.inbound := by
  rcases s.dispatch_cases k d with h | ⟨h, -⟩ | ⟨h, -⟩ | ⟨h, -⟩ | ⟨h, -⟩ | ⟨h, -⟩ | ⟨h, -⟩ <;> rw [h] <;> try rfl
  · rcases s.onAck_cases d with ⟨h, -⟩ | h | ⟨h, -⟩ | ⟨h, -⟩ <;> exact (congrArg State.inbound h).trans rfl
  · rcases s.onData_cases d with ⟨h, -⟩ | ⟨h, -⟩ <;> exact (congrArg State.inbound h).trans rfl

@[simp] theorem State.dispatch_hcWait (k : PacketKind) (d : Packet) (s : State) : (s.dispatch k d).hcWait = s.hcWait := by
  rcases s.dispatch_cases k d with h | ⟨h, -⟩ | ⟨h, -⟩ | ⟨h, -⟩ | ⟨h, -⟩ | ⟨h, -⟩ | ⟨h, -⟩ <;> rw [h] <;> try rfl
  · rcases s.onAck_cases d with ⟨h, -⟩ | h | ⟨h, -⟩ | ⟨h, -⟩ <;> exact (congrArg State.hcWait h).trans rfl
  · rcases s.onData_cases d with ⟨h, -⟩ | ⟨h, -⟩ <;> exact (congrArg State.hcWait h).trans rfl

@[simp] theorem State.dispatch_agenda (k : PacketKind) (d : Packet) (s : State) : (s.dispatch k d).agenda = s.agenda := by
  rcases s.dispatch_cases k d with h | ⟨h, -⟩ | ⟨h, -⟩ | ⟨h, -⟩ | ⟨h, -⟩ | ⟨h, -⟩ | ⟨h, -⟩ <;> rw [h] <;> try rfl
  · rcases s.onAck_cases d with ⟨h, -⟩ | h | ⟨h, -⟩ | ⟨h, -⟩ <;> exact (congrArg State.agenda h).trans rfl
  · rcases s.onData_cases d with ⟨h, -⟩ | ⟨h, -⟩ <;> exact (congrArg State.agenda h).trans rfl

@[simp] theorem State.rxFrame_cfg (chunk : Bytes) (ovf : Bool) (s : State) : (s.rxFrame chunk ovf).cfg = s.cfg := by
  rcases s.rxFrame_cases chunk ovf with ⟨e, h⟩ | ⟨k, d, h⟩ <;> simp [h]

@[simp] theorem State.rxFrame_state (chunk : Bytes) (ovf : Bool) (s : State) : (s.rxFrame chunk ovf).state = s.state := by
  rcases s.rxFrame_cases chunk ovf with ⟨e, h⟩ | ⟨k, d, h⟩ <;> simp [h]

@[simp] theorem State.rxFrame_linkOpen (chunk : Bytes) (ovf : Bool) (s : State) : (s.rxFrame chunk ovf).linkOpen = s.linkOpen := by
  rcases s.rxFrame_cases chunk ovf with ⟨e, h⟩ | ⟨k, d, h⟩ <;> simp [h]

@[simp] theorem State.rxFrame_retryCnt (chunk : Bytes) (ovf : Bool) (s : State) : (s.rxFrame chunk ovf).retryCnt = s.retryCnt := by
  rcases s.rxFrame_cases chunk ovf with ⟨e, h⟩ | ⟨k, d, h⟩ <;> simp [h]

@[simp] theorem State.rxFrame_txRetryCnt (chunk : Bytes) (ovf : Bool) (s : State) : (s.rxFrame chunk ovf).txRetryCnt = s.txRetryCnt := by
  rcases s.rxFrame_cases chunk ovf with ⟨e, h⟩ | ⟨k, d, h⟩ <;> simp [h]

@[simp] theorem State.rxFrame_openPending (chunk : Bytes) (ovf : Bool) (s : State) : (s.rxFrame chunk ovf).openPending = s.openPending := by
  rcases s.rxFrame_cases chunk ovf with ⟨e, h⟩ | ⟨k, d, h⟩ <;> simp [h]

@[simp] theorem State.rxFrame_closePending (chunk : Bytes) (ovf : Bool) (s : State) : (s.rxFrame chunk ovf).closePending = s.closePending := by
  rcases s.rxFrame_cases chunk ovf with ⟨e, h⟩ | ⟨k, d, h⟩ <;> simp [h]

@[simp] theorem State.rxFrame_rxSync (chunk : Bytes) (ovf : Bool) (s : State) : (s.rxFrame chunk ovf).rxSync = s.rxSync := by
  rcases s.rxFrame_cases chunk ovf with ⟨e, h⟩ | ⟨k, d, h⟩ <;> simp [h]

@[simp] theorem State.rxFrame_rxBuf (chunk : Bytes) (ovf : Bool) (s : State) : (s.rxFrame chunk ovf).rxBuf = s.rxBuf := by
  rcases s.rxFrame_cases chunk ovf with ⟨e, h⟩ | ⟨k, d, h⟩ <;> simp [h]

@[simp] theorem State.rxFrame_rxOvf (chunk : Bytes) (ovf : Bool) (s : State) : (s.rxFrame chunk ovf).rxOvf = s.rxOvf := by
  rcases s.rxFrame_cases chunk ovf with ⟨e, h⟩ | ⟨k, d, h⟩ <;> simp [h]

@[simp] theorem State.rxFrame_tSm (chunk : Bytes) (ovf : Bool) (s : State) : (s.rxFrame chunk ovf).tSm = s.tSm := by
  rcases s.rxFrame_cases chunk ovf with ⟨e, h⟩ | ⟨k, d, h⟩ <;> simp [h]

@[simp] theorem State.rxFrame_tOpen (chunk : Bytes) (ovf : Bool) (s : State) : (s.rxFrame chunk ovf).tOpen = s.tOpen := by
  rcases s.rxFrame_cases chunk ovf with ⟨e, h⟩ | ⟨k, d, h⟩ <;> simp [h]

@[simp] theorem State.rxFrame_flt (chunk : Bytes) (ovf : Bool) (s : State) : (s.rxFrame chunk ovf).flt = s.flt := by
  rcases s.rxFrame_cases chunk ovf with ⟨e, h⟩ | ⟨k, d, h⟩ <;> simp [h]

@[simp] theorem State.rxFrame_inbound (chunk : Bytes) (ovf : Bool) (s : State) : (s.rxFrame chunk ovf).inbound = s.inbound := by
  rcases s.rxFrame_cases chunk ovf with ⟨e, h⟩ | ⟨k, d, h⟩ <;> simp [h]

@[simp] theorem State.rxFrame_hcWait (chunk : Bytes) (ovf : Bool) (s : State) : (s.rxFrame chunk ovf).hcWait = s.hcWait := by
  rcases s.rxFrame_cases chunk ovf with ⟨e, h⟩ | ⟨k, d, h⟩ <;> simp [h]

@[simp] theorem State.rxFrame_agenda (chunk : Bytes) (ovf : Bool) (s : State) : (s.rxFrame chunk ovf).agenda = s.agenda := by
  rcases s.rxFrame_cases chunk ovf with ⟨e, h⟩ | ⟨k, d, h⟩ <;> simp [h]

/-- Every line of RX.BYTE (R138). -/
theorem State.consume_cases (b : Byte) (s : State) :
    (s.consume b = s.clearRx ∧ s.receiving = false)
      ∨ (s.consume b = { { s with rxBuf := [], rxOvf := false }.rxFrame s.chunk s.rxOvf with rxSync := true }
          ∧ s.receiving = true ∧ b = s.cfg.delim ∧ s.chunkReady = true)
      ∨ (s.consume b = { s with rxSync := true } ∧ s.receiving = true ∧ b = s.cfg.delim ∧ s.chunkReady = false)
      ∨ (s.consume b = s ∧ s.receiving = true ∧ b ≠ s.cfg.delim ∧ s.rxSync = false)
      ∨ (s.consume b = { s with rxOvf := true } ∧ s.receiving = true ∧ b ≠ s.cfg.delim ∧ s.rxSync = true
          ∧ s.rxBuf.length = s.cfg.rxBufMax)
      ∨ (s.consume b = { s with rxBuf := s.rxBuf ++ [b] } ∧ s.receiving = true ∧ b ≠ s.cfg.delim ∧ s.rxSync = true
          ∧ s.rxBuf.length ≠ s.cfg.rxBufMax) := by
  unfold State.consume
  cases hr : s.receiving
  · simp
  · by_cases hd : b = s.cfg.delim
    · cases hc : s.chunkReady <;> simp [hd, State.rxDelim, hc]
    · cases hs : s.rxSync <;> by_cases hl : s.rxBuf.length = s.cfg.rxBufMax <;> simp [hd, State.rxChunkByte, hs, hl]

@[simp] theorem State.consume_cfg (b : Byte) (s : State) : (s.consume b).cfg = s.cfg := by
  rcases s.consume_cases b with ⟨h, -⟩ | ⟨h, -⟩ | ⟨h, -⟩ | ⟨h, -⟩ | ⟨h, -⟩ | ⟨h, -⟩ <;> simp [h]

@[simp] theorem State.consume_state (b : Byte) (s : State) : (s.consume b).state = s.state := by
  rcases s.consume_cases b with ⟨h, -⟩ | ⟨h, -⟩ | ⟨h, -⟩ | ⟨h, -⟩ | ⟨h, -⟩ | ⟨h, -⟩ <;> simp [h]

@[simp] theorem State.consume_linkOpen (b : Byte) (s : State) : (s.consume b).linkOpen = s.linkOpen := by
  rcases s.consume_cases b with ⟨h, -⟩ | ⟨h, -⟩ | ⟨h, -⟩ | ⟨h, -⟩ | ⟨h, -⟩ | ⟨h, -⟩ <;> simp [h]

@[simp] theorem State.consume_retryCnt (b : Byte) (s : State) : (s.consume b).retryCnt = s.retryCnt := by
  rcases s.consume_cases b with ⟨h, -⟩ | ⟨h, -⟩ | ⟨h, -⟩ | ⟨h, -⟩ | ⟨h, -⟩ | ⟨h, -⟩ <;> simp [h]

@[simp] theorem State.consume_txRetryCnt (b : Byte) (s : State) : (s.consume b).txRetryCnt = s.txRetryCnt := by
  rcases s.consume_cases b with ⟨h, -⟩ | ⟨h, -⟩ | ⟨h, -⟩ | ⟨h, -⟩ | ⟨h, -⟩ | ⟨h, -⟩ <;> simp [h]

@[simp] theorem State.consume_openPending (b : Byte) (s : State) : (s.consume b).openPending = s.openPending := by
  rcases s.consume_cases b with ⟨h, -⟩ | ⟨h, -⟩ | ⟨h, -⟩ | ⟨h, -⟩ | ⟨h, -⟩ | ⟨h, -⟩ <;> simp [h]

@[simp] theorem State.consume_closePending (b : Byte) (s : State) : (s.consume b).closePending = s.closePending := by
  rcases s.consume_cases b with ⟨h, -⟩ | ⟨h, -⟩ | ⟨h, -⟩ | ⟨h, -⟩ | ⟨h, -⟩ | ⟨h, -⟩ <;> simp [h]

@[simp] theorem State.consume_tSm (b : Byte) (s : State) : (s.consume b).tSm = s.tSm := by
  rcases s.consume_cases b with ⟨h, -⟩ | ⟨h, -⟩ | ⟨h, -⟩ | ⟨h, -⟩ | ⟨h, -⟩ | ⟨h, -⟩ <;> simp [h]

@[simp] theorem State.consume_tOpen (b : Byte) (s : State) : (s.consume b).tOpen = s.tOpen := by
  rcases s.consume_cases b with ⟨h, -⟩ | ⟨h, -⟩ | ⟨h, -⟩ | ⟨h, -⟩ | ⟨h, -⟩ | ⟨h, -⟩ <;> simp [h]

@[simp] theorem State.consume_flt (b : Byte) (s : State) : (s.consume b).flt = s.flt := by
  rcases s.consume_cases b with ⟨h, -⟩ | ⟨h, -⟩ | ⟨h, -⟩ | ⟨h, -⟩ | ⟨h, -⟩ | ⟨h, -⟩ <;> simp [h]

@[simp] theorem State.consume_inbound (b : Byte) (s : State) : (s.consume b).inbound = s.inbound := by
  rcases s.consume_cases b with ⟨h, -⟩ | ⟨h, -⟩ | ⟨h, -⟩ | ⟨h, -⟩ | ⟨h, -⟩ | ⟨h, -⟩ <;> simp [h]

@[simp] theorem State.consume_hcWait (b : Byte) (s : State) : (s.consume b).hcWait = s.hcWait := by
  rcases s.consume_cases b with ⟨h, -⟩ | ⟨h, -⟩ | ⟨h, -⟩ | ⟨h, -⟩ | ⟨h, -⟩ | ⟨h, -⟩ <;> simp [h]

@[simp] theorem State.consume_agenda (b : Byte) (s : State) : (s.consume b).agenda = s.agenda := by
  rcases s.consume_cases b with ⟨h, -⟩ | ⟨h, -⟩ | ⟨h, -⟩ | ⟨h, -⟩ | ⟨h, -⟩ | ⟨h, -⟩ <;> simp [h]

/-! ### A SEND in flight (R41, R229) -/

theorem sendKept_refl (s : State) : sendKept s s := fun h => ⟨h, rfl, rfl, rfl⟩

theorem sendKept_trans {s t u : State} (h : sendKept s t) (h' : sendKept t u) : sendKept s u := by
  intro hu
  obtain ⟨ht, e1, e2, e3⟩ := h' hu
  obtain ⟨hs, f1, f2, f3⟩ := h ht
  exact ⟨hs, e1.trans f1, e2.trans f2, e3.trans f3⟩

/-- A packet keeps the SEND in flight or ends it (R140, R220). -/
theorem State.dispatch_sendKept (k : PacketKind) (d : Packet) (s : State) : sendKept s (s.dispatch k d) := by
  rcases s.dispatch_cases k d with h | ⟨h, -⟩ | ⟨h, -⟩ | ⟨h, -⟩ | ⟨h, -⟩ | ⟨h, -⟩ | ⟨h, -⟩ <;> rw [h] <;>
    try exact fun h => ⟨h, rfl, rfl, rfl⟩
  · rcases s.onAck_cases d with ⟨h, -⟩ | h | ⟨h, -⟩ | ⟨h, -⟩ <;> rw [h] <;> intro hb
    · exact ⟨hb, rfl, rfl, rfl⟩
    · exact ⟨hb, rfl, rfl, rfl⟩
    · exact ⟨hb, rfl, rfl, rfl⟩
    · simp at hb
  · rcases s.onData_cases d with ⟨h, -⟩ | ⟨h, -⟩ <;> rw [h] <;> exact fun hb => ⟨hb, rfl, rfl, rfl⟩

theorem State.rxFrame_sendKept (chunk : Bytes) (ovf : Bool) (s : State) : sendKept s (s.rxFrame chunk ovf) := by
  rcases s.rxFrame_cases chunk ovf with ⟨e, h⟩ | ⟨k, d, h⟩ <;> rw [h]
  · exact fun h => ⟨h, rfl, rfl, rfl⟩
  · exact s.dispatch_sendKept k d

theorem State.consume_sendKept (b : Byte) (s : State) : sendKept s (s.consume b) := by
  rcases s.consume_cases b with ⟨h, -⟩ | ⟨h, -⟩ | ⟨h, -⟩ | ⟨h, -⟩ | ⟨h, -⟩ | ⟨h, -⟩ <;> rw [h] <;>
    try exact fun h => ⟨h, rfl, rfl, rfl⟩
  exact State.rxFrame_sendKept s.chunk s.rxOvf { s with rxBuf := [], rxOvf := false }

theorem State.consumeAll_sendKept (bs : Bytes) (s : State) : sendKept s (State.consumeAll bs s) := by
  induction bs generalizing s with
  | nil => exact sendKept_refl s
  | cons b rest ih => exact sendKept_trans (State.consume_sendKept b { s with inbound := rest }) (ih _)

theorem State.enter_sendKept (st : ConnState) (c : Cause) (s : State) : sendKept s (s.enter st c) := by
  intro h
  rw [State.enter_txBusy] at h
  exact ⟨h, State.enter_txFrame st c s, State.enter_txRetryCnt st c s, State.enter_tTx st c s⟩

/-! ### The fault bit (R247): what each shared operation does with the bit set is what it does without -/

section
variable (s : State) (b : Bool)

theorem State.entryAction_setFlt (st : ConnState) : ({ s with flt := b } : State).entryAction st = { s.entryAction st with flt := b } := by
  cases st <;> rfl

theorem State.completeOpen_setFlt (st : ConnState) :
    ({ s with flt := b } : State).completeOpen st = { s.completeOpen st with flt := b } := by
  simp only [State.completeOpen]
  split
  · split <;> rfl
  · rfl

/-- `enter` does not look at the fault bit (R176). -/
theorem State.enter_setFlt (st : ConnState) (c : Cause) : ({ s with flt := b } : State).enter st c = { s.enter st c with flt := b } := by
  refine (congrArg (·.completeOpen st) (State.entryAction_setFlt
    ((({ s with state := st, exit := s.exit.clearPerState } : State).disarm .sm).status st c) b st)).trans ?_
  exact State.completeOpen_setFlt _ b st

/-- The dispatch table does not look at the fault bit (R140). -/
theorem State.dispatch_setFlt (k : PacketKind) (d : Packet) :
    ({ s with flt := b } : State).dispatch k d = { s.dispatch k d with flt := b } := by
  have hA : ({ s with flt := b } : State).onAck d = { s.onAck d with flt := b } := by
    simp only [State.onAck]
    split
    · split <;> rfl
    · split <;> rfl
  have hD : ({ s with flt := b } : State).onData d = { s.onData d with flt := b } := by
    simp only [State.onData]
    split <;> rfl
  cases k <;>
    simp only [State.dispatch, State.dispatchAck, State.dispatchData, State.dispatchDataUnrel, State.dispatchReset, State.dispatchSync,
      State.dispatchSyncRsp, State.dispatchConfig, State.dispatchConfigRsp, State.dispatchOther] <;>
    (try split) <;> first | rfl | exact hA | exact hD

theorem State.rxFrame_setFlt (chunk : Bytes) (ovf : Bool) :
    ({ s with flt := b } : State).rxFrame chunk ovf = { s.rxFrame chunk ovf with flt := b } := by
  simp only [State.rxFrame]
  split
  · rfl
  · split
    · rfl
    · split
      · rfl
      · exact State.dispatch_setFlt s b _ _

/-- RX.BYTE does not look at the fault bit (R138). -/
theorem State.consume_setFlt (x : Byte) : ({ s with flt := b } : State).consume x = { s.consume x with flt := b } := by
  have hr : ({ s with flt := b } : State).receiving = s.receiving := rfl
  have hc : ({ s with flt := b } : State).chunkReady = s.chunkReady := rfl
  simp only [State.consume, hr]
  split
  · rfl
  · split
    · simp only [State.rxDelim, hc]
      split
      · exact congrArg (fun u : State => { u with rxSync := true })
          (State.rxFrame_setFlt { s with rxBuf := [], rxOvf := false } b s.chunk s.rxOvf)
      · rfl
    · simp only [State.rxChunkByte]
      split
      · rfl
      · split <;> rfl

theorem State.consumeAll_setFlt (bs : Bytes) : ∀ s : State,
    State.consumeAll bs { s with flt := b } = { State.consumeAll bs s with flt := b } := by
  induction bs with
  | nil => intro s; rfl
  | cons x rest ih =>
    intro s
    simp only [State.consumeAll]
    rw [← ih]
    exact congrArg (State.consumeAll rest) (State.consume_setFlt { s with inbound := rest } b x)

theorem State.emitIfOpen_setFlt (f : Bytes) : ({ s with flt := b } : State).emitIfOpen f = { s.emitIfOpen f with flt := b } := by
  simp only [State.emitIfOpen]; split <;> rfl

theorem State.receive_setFlt (bs : Bytes) : ({ s with flt := b } : State).receive bs = { s.receive bs with flt := b } :=
  State.consumeAll_setFlt b (s.inbound ++ bs) (s.indicate bs)

theorem State.acceptSend_setFlt (p : Bytes) : ({ s with flt := b } : State).acceptSend p = { s.acceptSend p with flt := b } := by
  simp only [State.acceptSend]
  split
  · rfl
  · split <;> rfl

theorem State.closeLink_setFlt : ({ s with flt := b } : State).closeLink = { s.closeLink with flt := b } := by
  have ha : ({ s with flt := b } : State).nextAnswer = s.nextAnswer := rfl
  have hr : ({ s with flt := b } : State).request .tClose = { s.request .tClose with flt := b } := rfl
  simp only [State.closeLink, ha, hr]
  rfl

theorem State.smExpired_setFlt : ({ s with flt := b } : State).smExpired = { s.smExpired with flt := b } := by
  have hr : ∀ f, ({ s with flt := b } : State).retryHandshake f = { s.retryHandshake f with flt := b } := by
    intro f
    simp only [State.retryHandshake]
    split
    · rfl
    · split <;> rfl
  simp only [State.smExpired]
  split <;> first | rfl | exact hr _

theorem State.txExpired_setFlt : ({ s with flt := b } : State).txExpired = { s.txExpired with flt := b } := by
  simp only [State.txExpired]
  split
  · split <;> rfl
  · rfl

theorem State.openExpired_setFlt : ({ s with flt := b } : State).openExpired = { s.openExpired with flt := b } := by
  simp only [State.openExpired]
  split <;> rfl

/-- A guarded step whose effect does not look at the fault bit does not either. -/
theorem State.guarded_setFlt {s t u v : State} {g b : Bool} (h : v = { u with flt := b }) (ht : s.guarded g u = .next t) :
    ({ s with flt := b } : State).guarded g v = .next { t with flt := b } := by
  subst h
  cases g <;> cases ht <;> rfl

end

/-! ### A whole frame through the reassembler (R138, R141) -/

/-- `State.receiving` reads `link_open` and `state` alone. -/
theorem State.receiving_congr {s t : State} (h : t.linkOpen = s.linkOpen) (h' : t.state = s.state) : t.receiving = s.receiving := by
  simp [State.receiving, h, h']

/-- What RX.BYTE does with a delimiter that opens a chunk (R138 line 2). -/
theorem State.consume_opening {s : State} (hr : s.receiving = true) (hq : s.chunkReady = false) :
    s.consume s.cfg.delim = { s with rxSync := true } := by
  simp [State.consume, hr, State.rxDelim, hq]

/-- What RX.BYTE does with a delimiter that closes a chunk that has not overflowed (R138 line 2). -/
theorem State.consume_closing {s : State} (hr : s.receiving = true) (hs : s.rxSync = true) (ho : s.rxOvf = false) (hb : s.rxBuf ≠ []) :
    s.consume s.cfg.delim = { s with rxBuf := [] }.rxFrame ([s.cfg.delim] ++ s.rxBuf ++ [s.cfg.delim]) false := by
  cases s
  simp only at hr hs ho hb
  subst hs ho
  simp only [State.consume, hr, State.rxDelim, State.chunkReady, State.chunk, Bool.not_true, Bool.false_eq_true, if_false, if_true,
    Bool.true_and, Bool.or_false, Bool.not_eq_true', List.isEmpty_eq_false_iff.mpr hb]
  generalize hg : State.rxFrame _ false _ = g
  have hs : g.rxSync = true := by rw [← hg]; simp
  cases g; simp only at hs; subst hs; rfl

/-- What RX.BYTE does with a byte of a chunk that still fits (R138 line 3). -/
theorem State.consume_byte {s : State} {b : Byte} (hr : s.receiving = true) (hs : s.rxSync = true) (hb : b ≠ s.cfg.delim)
    (hl : s.rxBuf.length ≠ s.cfg.rxBufMax) : s.consume b = { s with rxBuf := s.rxBuf ++ [b] } := by
  simp [State.consume, hr, State.rxChunkByte, hs, hb, hl]

/-- Bytes of a chunk that fits are kept, one after another (R138 line 3). -/
theorem State.consumeAll_body (body rest : Bytes) (s : State) (hr : s.receiving = true) (hs : s.rxSync = true)
    (hd : s.cfg.delim ∉ body) (hl : s.rxBuf.length + body.length ≤ s.cfg.rxBufMax) (hne : body ≠ []) :
    State.consumeAll (body ++ rest) s = State.consumeAll rest { s with inbound := rest, rxBuf := s.rxBuf ++ body } := by
  induction body generalizing s with
  | nil => exact absurd rfl hne
  | cons b body ih =>
    simp only [List.mem_cons, not_or] at hd
    simp only [List.length_cons] at hl
    have e := State.consume_byte (s := { s with inbound := body ++ rest }) (b := b) hr hs (Ne.symm hd.1) (by show s.rxBuf.length ≠ s.cfg.rxBufMax; omega)
    simp only [List.cons_append, State.consumeAll, e]
    cases body with
    | nil => rfl
    | cons x body =>
      refine (ih { s with inbound := x :: body ++ rest, rxBuf := s.rxBuf ++ [b] } hr hs hd.2 ?_ (by simp)).trans ?_
      · simp only [List.length_append, List.length_cons, List.length_nil] at hl ⊢; omega
      · simp

/-- A frame whose body fits, arriving at an empty buffer, is handed to RX.FRAME once, whole (R138, R141). -/
theorem State.consumeAll_frame (k rest : Bytes) (s : State) (hc : framingOk s.cfg = true) (hr : s.receiving = true)
    (hb : s.rxBuf = []) (ho : s.rxOvf = false) (hk : k ≠ []) (hl : (stuff s.cfg k).length ≤ s.cfg.rxBufMax) :
    State.consumeAll (encodeFrame s.cfg k ++ rest) s
      = State.consumeAll rest ({ s with inbound := rest, rxSync := true }.rxFrame (encodeFrame s.cfg k) false) := by
  have hne : stuff s.cfg k ≠ [] := by
    cases k with
    | nil => exact absurd rfl hk
    | cons b k => simp [stuffByte_ne_nil]
  have e0 : encodeFrame s.cfg k ++ rest = s.cfg.delim :: (stuff s.cfg k ++ s.cfg.delim :: rest) := by simp [encodeFrame]
  have e1 := State.consume_opening (s := { s with inbound := stuff s.cfg k ++ s.cfg.delim :: rest }) hr
    (by simp [State.chunkReady, hb, ho])
  have e2 := State.consumeAll_body (stuff s.cfg k) (s.cfg.delim :: rest)
    { s with inbound := stuff s.cfg k ++ s.cfg.delim :: rest, rxSync := true } hr rfl (delim_not_mem_stuff hc k)
    (by simpa [hb] using hl) hne
  have e3 := State.consume_closing (s := { s with inbound := rest, rxSync := true, rxBuf := s.rxBuf ++ stuff s.cfg k }) hr rfl ho
    (by simp [hne])
  rw [e0, State.consumeAll, e1, e2, State.consumeAll, e3]
  simp only [hb, List.nil_append]
  rfl

/-- A chunk that holds a packet is dispatched by the packet's kind (R139). -/
theorem State.rxFrame_packet {chunk k : Bytes} {d : Packet} {s : State} (hf : decodeFrame s.cfg chunk = .ok k)
    (hd : decodePkt s.cfg k = .ok d) : s.rxFrame chunk false = s.dispatch (kind s.cfg d) d := by
  simp [State.rxFrame, hf, hd]

/-! ### Runs and ticks (R44) -/

theorem runAll_append (a b : List Instr) (s : State) : runAll (a ++ b) s = (runAll a s).bind (runAll b) := by
  induction a generalizing s with
  | nil => rfl
  | cons i a ih =>
    simp only [List.cons_append, runAll]
    split <;> simp [ih]

/-- A timer after `n` ticks. -/
def Timer.after (n : Nat) (t : Timer) : Timer := if t.armed then { t with rem := t.rem - BitVec.ofNat 16 n } else t

/-- A timer that outlasts `n` ticks. -/
def Timer.lasts (n : Nat) (t : Timer) : Prop := t.armed = true → n ≤ t.rem.toNat

@[simp] theorem Timer.after_zero (t : Timer) : t.after 0 = t := by
  cases t; simp [Timer.after]

theorem Timer.after_armed (n : Nat) (t : Timer) : (t.after n).armed = t.armed := by
  unfold Timer.after; split <;> rfl

theorem Timer.after_rem {n : Nat} {t : Timer} (h : t.lasts n) (ha : t.armed = true) : (t.after n).rem.toNat = t.rem.toNat - n := by
  have := h ha
  have hlt := t.rem.isLt
  simp only [Timer.after, ha, if_true, BitVec.toNat_sub, BitVec.toNat_ofNat]
  omega

theorem Timer.tick_eq_after (t : Timer) : t.tick = t.after 1 := rfl

theorem Timer.after_after (m n : Nat) (t : Timer) : (t.after m).after n = t.after (m + n) := by
  cases h : t.armed
  · simp [Timer.after, h]
  · simp only [Timer.after, h, if_true]
    rw [BitVec.sub_sub, BitVec.ofNat_add]

theorem Timer.lasts_succ {n : Nat} {t : Timer} (h : t.lasts (n + 1)) : t.expired = false ∧ t.tick.lasts n := by
  constructor
  · cases ha : t.armed
    · simp [Timer.expired, ha]
    · have := h ha
      simp only [Timer.expired, ha, Bool.true_and, beq_eq_false_iff_ne, ne_eq]
      intro h0; rw [h0] at this; simp at this
  · intro ha
    rw [Timer.tick_eq_after, Timer.after_armed] at ha
    rw [Timer.tick_eq_after, Timer.after_rem (fun _ => by have := h ha; omega) ha]
    have := h ha; omega

/-- `n` ticks while every timer outlasts them count each armed timer down by `n` and change nothing else. -/
theorem runAll_ticks (n : Nat) (s : State) (h1 : s.tSm.lasts n) (h2 : s.tTx.lasts n) (h3 : s.tOpen.lasts n) :
    runAll (List.replicate n .tick) s
      = some { s with tSm := s.tSm.after n, tTx := s.tTx.after n, tOpen := s.tOpen.after n } := by
  induction n generalizing s with
  | zero => simp [runAll]
  | succ n ih =>
    obtain ⟨e1, l1⟩ := Timer.lasts_succ h1
    obtain ⟨e2, l2⟩ := Timer.lasts_succ h2
    obtain ⟨e3, l3⟩ := Timer.lasts_succ h3
    have e : exec .tick s = .next { s with tSm := s.tSm.tick, tTx := s.tTx.tick, tOpen := s.tOpen.tick } := by
      simp [exec, execTick, State.canTick, e1, e2, e3]
    simp only [List.replicate_succ, runAll, e]
    rw [ih { s with tSm := s.tSm.tick, tTx := s.tTx.tick, tOpen := s.tOpen.tick } l1 l2 l3]
    simp only [Timer.tick_eq_after, Timer.after_after, Nat.add_comm 1 n]

end Sys2Proof.Machine
end

