-- ==== Sys2Proof/Laws/Joined.lean ====
section
/-! SUPPORT. What one block of a joined pair fires and takes in, phase by phase of its opening, and what the pair comes to (R202). -/

namespace Sys2Proof.Machine

open Safety

/-- A block with an open link and no SEND in flight, in `st` with the flags `e`, `j` attempts left and `t` ticks of `t_sm` left. What
    an
OPEN pending and its timer do is left open. -/
structure Phase (c : Cfg) (st : ConnState) (e : ExitFlags) (j : Nat) (t : Option Nat) (s : State) : Prop where
  cfg : s.cfg = c
  linkOpen : s.linkOpen = true
  state : s.state = st
  exit : s.exit = e
  inbound : s.inbound = []
  rxBuf : s.rxBuf = []
  rxOvf : s.rxOvf = false
  tTx : s.tTx.armed = false
  txBusy : s.txBusy = false
  closePending : s.closePending = false
  retry : s.retryCnt.toNat = j
  tSm : s.tSm.armed = t.isSome ∧ ∀ d, t = some d → s.tSm.rem.toNat = d
  nums : st = .active → s.seqNum = 0 ∧ s.ackNum = 0

/-- The block fires its next step, reaches `P` and sends `g`. -/
def Fires (s : State) (P : State → Prop) (g : Bytes) : Prop :=
  ∃ i, s.readyStep = some i ∧ P (s.fireWith .ok i) ∧ sentBytes s (s.fireWith .ok i) = g

/-- The block consumes what it has not read and `f`, reaches `P` and sends `g`. -/
def Takes (s : State) (f : Bytes) (P : State → Prop) (g : Bytes) : Prop :=
  P (s.indicate f).consumeInbound ∧ sentBytes (s.indicate f) (s.indicate f).consumeInbound = g

/-- The flags in RESET while `t_sm` runs (R180). -/
def exResetSent : ExitFlags := { ExitFlags.zero with resetSent := true }
/-- The flags in RESET once the settle time is over (R195). -/
def exSettled : ExitFlags := { ExitFlags.zero with resetSent := true, resetWaitDone := true }
/-- The flags in START once T_OPEN was answered OK (R171). -/
def exOpened : ExitFlags := { ExitFlags.zero with opened := true }
/-- The flags in a handshake state once the peer has responded (R197, R199). -/
def exResponded : ExitFlags := { ExitFlags.zero with peerResponded := true }

variable {c : Cfg} {s : State} {j : Nat} {t : Option Nat} {st : ConnState} {e : ExitFlags}

theorem ticks_toNat {d : Nat} (h : durationOk c d = true) : (BitVec.ofNat 16 (ticks c d)).toNat = ticks c d := by
  simp only [durationOk, Bool.and_eq_true, decide_eq_true_eq] at h
  simp only [BitVec.toNat_ofNat]; omega

theorem budget_toNat (h : budgetOk c = true) : (fullBudget c).toNat = c.retryBudget - 1 := by
  simp only [budgetOk, Bool.and_eq_true, decide_eq_true_eq] at h
  simp only [fullBudget, BitVec.toNat_ofNat]; omega

theorem sentBytes_append {s t : State} {l : List OutMsg} (h : t.out = s.out ++ l) : sentBytes s t = l.flatMap wireBytes := by
  simp [sentBytes, h]

/-- START to RESET (R179). -/
theorem Phase.fires_seqStart (h : Phase c .start exOpened j t s) (hd : durationOk c c.resetSettle = true) :
    Fires s (Phase c .reset exResetSent j (some (ticks c c.resetSettle))) (resetFrameOf c) := by
  obtain ⟨a, n, ha, he⟩ := State.enter_reset .opened { s with answers := [.ok] }
  obtain rfl : a = .ok := ha _ rfl
  have e : s.fireWith .ok .seqStart = { ({ s with answers := [.ok] } : State).enter .reset .opened with answers := [] } := by
    simp [State.fireWith, exec, execSeqStart, State.canSeqStart, h.state, h.exit, exOpened, ExitFlags.zero, ExitFlags.abort]
  refine ⟨.seqStart, ?_, ?_, ?_⟩
  · simp [State.readyStep, State.enabledStep, State.canSeqAbort, State.canSeqStart, h.state, h.exit, exOpened, ExitFlags.zero,
      ExitFlags.abort]
  · rw [e, he]
    constructor <;> simp [h.cfg, h.linkOpen, h.exit, h.inbound, h.rxBuf, h.rxOvf, h.tTx, h.txBusy, h.closePending, h.retry, exOpened,
      exResetSent, ExitFlags.zero, ticks_toNat hd]
  · rw [e, he]; exact (sentBytes_append rfl).trans (by simp [wireBytes, h.cfg])

/-- RESET to UNINITIALIZED (R181). -/
theorem Phase.fires_seqReset (h : Phase c .reset exSettled j t s) (hd : durationOk c c.retxInterval = true) (hb : budgetOk c = true) :
    Fires s (Phase c .uninitialized ExitFlags.zero (c.retryBudget - 1) (some (ticks c c.retxInterval))) (syncFrameOf c) := by
  obtain ⟨a, n, ha, he⟩ := State.enter_uninitialized .resetDone { s with answers := [.ok] }
  obtain rfl : a = .ok := ha _ rfl
  have e : s.fireWith .ok .seqReset = { ({ s with answers := [.ok] }
      : State).enter .uninitialized .resetDone with answers := [] } := by
    simp [State.fireWith, exec, execSeqReset, State.canSeqReset, h.state, h.exit, exSettled, ExitFlags.zero, ExitFlags.abort]
  refine ⟨.seqReset, ?_, ?_, ?_⟩
  · simp [State.readyStep, State.enabledStep, State.canSeqAbort, State.canSeqStart, State.canSeqReset, h.state, h.exit, exSettled,
      ExitFlags.zero, ExitFlags.abort]
  · rw [e, he]
    constructor <;> simp [h.cfg, h.linkOpen, h.exit, h.inbound, h.rxBuf, h.rxOvf, h.tTx, h.txBusy, h.closePending, exSettled,
      ExitFlags.zero, ticks_toNat hd, budget_toNat hb]
  · rw [e, he]; exact (sentBytes_append rfl).trans (by simp [wireBytes, h.cfg])

/-- UNINITIALIZED to INITIALIZED (R187). -/
theorem Phase.fires_seqUninitOk (h : Phase c .uninitialized exResponded j t s) (hd : durationOk c c.retxInterval = true)
    (hb : budgetOk c = true) :
    Fires s (Phase c .initialized ExitFlags.zero (c.retryBudget - 1) (some (ticks c c.retxInterval))) (configFrameOf c) := by
  obtain ⟨a, n, ha, he⟩ := State.enter_initialized .peerResponded { s with answers := [.ok] }
  obtain rfl : a = .ok := ha _ rfl
  have e : s.fireWith .ok .seqUninitOk
      = { ({ s with answers := [.ok] } : State).enter .initialized .peerResponded with answers := [] } := by
    simp [State.fireWith, exec, execSeqUninitOk, State.canSeqUninitOk, h.state, h.exit, exResponded, ExitFlags.zero, ExitFlags.abort]
  refine ⟨.seqUninitOk, ?_, ?_, ?_⟩
  · simp [State.readyStep, State.enabledStep, State.canSeqAbort, State.canSeqStart, State.canSeqReset, State.canSeqUninitOk, h.state,
      h.exit, exResponded, ExitFlags.zero, ExitFlags.abort]
  · rw [e, he]
    constructor <;> simp [h.cfg, h.linkOpen, h.exit, h.inbound, h.rxBuf, h.rxOvf, h.tTx, h.txBusy, h.closePending, exResponded,
      ExitFlags.zero, ticks_toNat hd, budget_toNat hb]
  · rw [e, he]; exact (sentBytes_append rfl).trans (by simp [wireBytes, h.cfg])

/-- INITIALIZED to ACTIVE (R193). -/
theorem Phase.fires_seqInitOk (h : Phase c .initialized exResponded j t s) : Fires s (Phase c .active ExitFlags.zero j none) [] := by
  obtain ⟨r1, r2, n, he⟩ := State.enter_active .peerResponded { s with answers := [.ok] }
  have e : s.fireWith .ok .seqInitOk = { ({ s with answers := [.ok] } : State).enter .active .peerResponded with answers := [] } := by
    simp [State.fireWith, exec, execSeqInitOk, State.canSeqInitOk, h.state, h.exit, exResponded, ExitFlags.zero, ExitFlags.abort]
  refine ⟨.seqInitOk, ?_, ?_, ?_⟩
  · simp [State.readyStep, State.enabledStep, State.canSeqAbort, State.canSeqStart, State.canSeqReset, State.canSeqUninitOk,
      State.canSeqUninitNr, State.canSeqInitOk, h.state, h.exit, exResponded, ExitFlags.zero, ExitFlags.abort]
  · rw [e, he]
    constructor <;> simp [h.cfg, h.linkOpen, h.exit, h.inbound, h.rxBuf, h.rxOvf, h.tTx, h.txBusy, h.closePending, h.retry,
        exResponded,
      ExitFlags.zero, ExitFlags.clearPerState]
  · rw [e, he]; refine (sentBytes_append (l := [.up (.status .active .peerResponded)] ++
      (if s.openPending then [.hr .opn .ok] else []))
      (by simp)).trans ?_
    split <;> simp [wireBytes]

/-- The flags under which a block waits. -/
def waitFlags (st : ConnState) (e : ExitFlags) : Prop :=
  (st = .reset ∧ e = exResetSent) ∨ ((st = .uninitialized ∨ st = .initialized ∨ st = .active) ∧ e = ExitFlags.zero)

theorem Phase.no_enabledStep (h : Phase c st e j t s) (hw : waitFlags st e) : s.enabledStep = none := by
  rcases hw with ⟨rfl, rfl⟩ | ⟨rfl | rfl | rfl, rfl⟩ <;>
    simp [State.enabledStep, State.canSeqAbort, State.canSeqStart, State.canSeqReset, State.canSeqUninitOk,
      State.canSeqUninitNr, State.canSeqInitOk, State.canSeqInitNr, State.canSeqActive, State.canCloseDone, State.canTxAbort,
      h.state, h.exit, h.closePending, h.txBusy, exResetSent, ExitFlags.zero, ExitFlags.abort]

theorem Phase.tSm_expired (h : Phase c st e j (some 0) s) : s.tSm.expired = true := by
  have h1 := h.tSm.1
  have h2 := h.tSm.2 0 rfl
  simp only [Timer.expired, h1, Option.isSome_some, Bool.true_and, beq_iff_eq]
  exact BitVec.eq_of_toNat_eq (by simpa using h2)

theorem Phase.readyStep_sm (h : Phase c st e j (some 0) s) (hw : waitFlags st e) : s.readyStep = some .tSmExpire := by
  simp [State.readyStep, h.no_enabledStep hw, State.dueExpiry, h.tSm_expired]

/-- `t_sm` expires in RESET (R195). -/
theorem Phase.fires_settle (h : Phase c .reset exResetSent j (some 0) s) : Fires s (Phase c .reset exSettled j none) [] := by
  refine ⟨.tSmExpire, h.readyStep_sm (.inl ⟨rfl, rfl⟩), ?_⟩
  have e : s.fireWith .ok .tSmExpire = { s with
      exit := { s.exit with resetWaitDone := true }, tSm := ⟨false, Config.freeRem s.freeCount⟩, freeCount := s.freeCount + 1
      answers := [] } := by
    simp [State.fireWith, exec, execTSmExpire, h.tSm_expired, State.smExpired, h.state, State.disarm, State.setTimer]
  rw [e]
  refine ⟨?_, (sentBytes_append (l := []) (by simp)).trans rfl⟩
  constructor <;> simp [h.cfg, h.linkOpen, h.state, h.exit, h.inbound, h.rxBuf, h.rxOvf, h.tTx, h.txBusy, h.closePending, h.retry,
      ExitFlags.zero, exSettled, exResetSent]

/-- `t_sm` expires in a handshake state while attempts are left (R195). -/
theorem Phase.fires_retry {f : Bytes} (h : Phase c st ExitFlags.zero (j + 1) (some 0) s)
    (hst : (st = .uninitialized ∧ f = syncFrameOf c) ∨ (st = .initialized ∧ f = configFrameOf c))
    (hd : durationOk c c.retxInterval = true) : Fires s (Phase c st ExitFlags.zero j (some (ticks c c.retxInterval))) f := by
  refine ⟨.tSmExpire, h.readyStep_sm (.inr ⟨by rcases hst with ⟨h, -⟩ | ⟨h, -⟩ <;> simp [h], rfl⟩), ?_⟩
  have hr : s.retryCnt ≠ 0 := by intro h0; have := h.retry; rw [h0] at this; simp at this
  have e : s.fireWith .ok .tSmExpire = { s with
      retryCnt := s.retryCnt - 1, tSm := ⟨true, BitVec.ofNat 16 (ticks c c.retxInterval)⟩, freeCount := s.freeCount + 1
      out := s.out ++ [.tq (.tSend f) .ok], answers := [] } := by
    have hx := h.exit
    cases s with | mk =>
    simp only at hx hr
    simp only [BitVec.ofNat_eq_ofNat, ne_eq] at hr
    subst hx
    have hc := h.cfg
    have hs := h.state
    simp only at hc hs
    subst hc hs
    rcases hst with ⟨rfl, rfl⟩ | ⟨rfl, rfl⟩ <;>
    simp [State.fireWith, exec, execTSmExpire, h.tSm_expired, State.smExpired, State.disarm, State.setTimer, State.retryHandshake,
        ExitFlags.abort, ExitFlags.zero, hr, State.emit_eq, State.nextAnswer, State.countAfterRequest, State.arm]
  rw [e]
  refine ⟨?_, (sentBytes_append rfl).trans (by simp [wireBytes])⟩
  have hj : (s.retryCnt - 1).toNat = j := by
    have := h.retry
    have := s.retryCnt.isLt
    rw [BitVec.toNat_sub]; simp; omega
  constructor <;> first | exact hj | simp [h.cfg, h.linkOpen, h.state, h.exit, h.inbound, h.rxBuf, h.rxOvf, h.tTx, h.txBusy,
      h.closePending,
      ExitFlags.zero, ticks_toNat hd]
  rcases hst with ⟨rfl, -⟩ | ⟨rfl, -⟩ <;> simp

/-- `t_open` expires: nothing is sent and the phase goes on (R175). -/
theorem Phase.fires_tOpenExpire (h : Phase c st e j t s) (hw : waitFlags st e) (ht : t ≠ some 0) (ho : s.tOpen.expired = true) :
    Fires s (fun u => Phase c st e j t u ∧ u.tOpen.expired = false) [] := by
  have hsm : s.tSm.expired = false := by
    cases ha : s.tSm.armed
    · simp [Timer.expired, ha]
    · have := h.tSm.1
      rw [ha] at this
      cases t with
      | none => simp at this
      | some d =>
        have hd := h.tSm.2 d rfl
        have : d ≠ 0 := by intro h0; simp [h0] at ht
        simp only [Timer.expired, ha, Bool.true_and, beq_eq_false_iff_ne, ne_eq]
        intro h0; rw [h0] at hd; simp at hd; omega
  have htx : s.tTx.expired = false := by simp [Timer.expired, h.tTx]
  refine ⟨.tOpenExpire, by simp [State.readyStep, h.no_enabledStep hw, State.dueExpiry, hsm, htx, ho], ?_⟩
  have e : s.fireWith .ok .tOpenExpire = { s with
      openPending := false, tOpen := ⟨false, Config.freeRem s.freeCount⟩, freeCount := s.freeCount + 1
      out := s.out ++ (if s.openPending then [.hr .opn .timeout] else []), answers := [] } := by
    cases hp : s.openPending <;>
      simp [State.fireWith, exec, execTOpenExpire, ho, State.openExpired, State.disarm, State.setTimer, hp, State.put]
  rw [e]
  refine ⟨⟨?_, by simp [Timer.expired]⟩, (sentBytes_append rfl).trans (by split <;> simp [wireBytes])⟩
  obtain ⟨⟩ := h
  constructor <;> assumption

/-- A block that waits, with no timer expired: nothing is due, and a tick counts down (R44). -/
theorem Phase.tick (h : Phase c st e j (t.map (· + 1)) s) (hw : waitFlags st e) (ho : s.tOpen.expired = false) :
    s.readyStep = none ∧ Phase c st e j t (s.fireWith .ok .tick) := by
  have hsm : s.tSm.expired = false := by
    have h1 := h.tSm.1
    have h2 := h.tSm.2
    cases t with
    | none => simp at h1; simp [Timer.expired, h1]
    | some d =>
      have := h2 (d + 1) rfl
      simp only [Option.map_some, Option.isSome_some] at h1
      simp only [Timer.expired, h1, Bool.true_and, beq_eq_false_iff_ne, ne_eq]
      intro h0; rw [h0] at this; simp at this
  have htx : s.tTx.expired = false := by simp [Timer.expired, h.tTx]
  refine ⟨by simp [State.readyStep, h.no_enabledStep hw, State.dueExpiry, hsm, htx, ho], ?_⟩
  have e : s.fireWith .ok .tick = { s with tSm := s.tSm.tick, tTx := s.tTx.tick, tOpen := s.tOpen.tick, answers := [] } := by
    simp [State.fireWith, exec, execTick, State.canTick, hsm, htx, ho]
  rw [e]
  have h1 := h.tSm.1
  have h2 := h.tSm.2
  constructor <;> first
    | (simp [h.cfg, h.linkOpen, h.state, h.exit, h.inbound, h.rxBuf, h.rxOvf, h.tTx, h.txBusy, h.closePending, h.retry, Timer.tick];
        done)
    | exact h.nums
    | skip
  cases t with
  | none => simp at h1; simp [Timer.tick, h1]
  | some d =>
    have := h2 (d + 1) rfl
    simp only [Option.map_some, Option.isSome_some] at h1
    simp only [Timer.tick, h1, if_true, Option.isSome_some, true_and]
    rintro _ ⟨⟩
    have := s.tSm.rem.isLt
    rw [BitVec.toNat_sub]; simp; omega

/-- `f` is a frame that fits the buffer and holds a packet of kind `k`. -/
def Carries (c : Cfg) (f : Bytes) (k : PacketKind) : Prop :=
  ∃ q d, f = encodeFrame c q ∧ q ≠ [] ∧ (stuff c q).length ≤ c.rxBufMax ∧ decodeFrame c f = .ok q ∧ decodePkt c q = .ok d
    ∧ kind c d = k

/-- A frame that arrives at a block whose buffer is empty is dispatched. -/
theorem Phase.takes {f : Bytes} {k : PacketKind} (h : Phase c st e j t s) (hst : isTerminal st = false) (hc : framingOk c = true)
    (hf : Carries c f k) : ∃ d, (s.indicate f).consumeInbound
      = { State.dispatch k d { s with rxSync := true, answers := List.replicate f.length .ok } with answers := [] } := by
  obtain ⟨q, d, rfl, h1, h2, h3, h4, rfl⟩ := hf
  refine ⟨d, ?_⟩
  have hcfg := h.cfg
  subst hcfg
  have := State.consumeAll_frame q []
    { s.indicate (encodeFrame s.cfg q) with answers := List.replicate (encodeFrame s.cfg q).length .ok }
    hc (by simp [State.receiving, State.indicate, h.linkOpen, h.state, hst]) h.rxBuf h.rxOvf h1 h2
  simp only [List.append_nil, State.consumeAll] at this
  have hi := h.inbound
  simp only [State.consumeInbound, State.indicate, hi, List.nil_append] at this ⊢
  have hp : ∀ u : State, u.cfg = s.cfg → u.rxFrame (encodeFrame s.cfg q) false = u.dispatch (kind s.cfg d) d := fun u hu => by
    rw [← hu] at h3 h4 ⊢; exact State.rxFrame_packet h3 h4
  refine (congrArg (fun u : State => { u with answers := [] }) (this.trans (hp _ rfl))).trans ?_
  cases s; simp only at hi; subst hi; rfl

theorem Carries.ne_nil {f : Bytes} {k : PacketKind} (hf : Carries c f k) : f ≠ [] := by
  obtain ⟨q, d, rfl, -⟩ := hf
  simp [encodeFrame]

/-- A packet of a kind that the state drops. -/
theorem Phase.drops {f : Bytes} {k : PacketKind} (h : Phase c st e j t s) (hc : framingOk c = true) (hf : Carries c f k)
    (hd : (k = .reset ∧ isTerminal st = false) ∨ (k = .sync ∧ (st = .start ∨ st = .reset))
      ∨ (k = .config ∧ (st = .start ∨ st = .reset ∨ st = .uninitialized))) :
    Takes s f (Phase c st e j t) [] := by
  have hst : isTerminal st = false := by rcases hd with ⟨-, h⟩ | ⟨-, rfl | rfl⟩ | ⟨-, rfl | rfl | rfl⟩ <;> first | exact h | rfl
  obtain ⟨d, hq⟩ := h.takes hst hc hf
  have e : State.dispatch k d { s with rxSync := true, answers := List.replicate f.length .ok }
      = { s with rxSync := true, answers := List.replicate f.length .ok } := by
    rcases hd with ⟨rfl, h'⟩ | ⟨rfl, rfl | rfl⟩ | ⟨rfl, rfl | rfl | rfl⟩ <;>
      simp [State.dispatch, State.dispatchReset, State.dispatchSync, State.dispatchConfig, h.state]
  rw [e] at hq
  rw [Takes, hq]
  refine ⟨?_, (sentBytes_append (l := []) (by simp [State.indicate])).trans rfl⟩
  obtain ⟨⟩ := h
  constructor <;> assumption

/-- A packet that the state answers. -/
theorem Phase.answers {f g : Bytes} {k : PacketKind} (h : Phase c st e j t s) (hc : framingOk c = true) (hf : Carries c f k)
    (hd : (k = .sync ∧ g = syncRspFrameOf c ∧ (st = .uninitialized ∨ st = .initialized))
      ∨ (k = .config ∧ g = configRspFrameOf c ∧ (st = .initialized ∨ st = .active))) :
    Takes s f (Phase c st e j t) g := by
  have hst : isTerminal st = false := by rcases hd with ⟨-, -, rfl | rfl⟩ | ⟨-, -, rfl | rfl⟩ <;> rfl
  obtain ⟨d, hq⟩ := h.takes hst hc hf
  obtain ⟨b, f', hfl⟩ := List.exists_cons_of_ne_nil hf.ne_nil
  have e : State.dispatch k d { s with rxSync := true, answers := List.replicate f.length .ok }
      = { s with rxSync := true, answers := List.replicate f'.length .ok, out := s.out ++ [.tq (.tSend g) .ok] } := by
    rcases hd with ⟨rfl, rfl, rfl | rfl⟩ | ⟨rfl, rfl, rfl | rfl⟩ <;>
      simp [State.dispatch, State.dispatchSync, State.dispatchConfig, h.state, State.onSync, State.onConfig, State.emit_eq,
        hfl, List.replicate_succ, State.nextAnswer, State.countAfterRequest, h.cfg, show (Answer.ok == Answer.err) = false from rfl]
  rw [e] at hq
  rw [Takes, hq]
  refine ⟨?_, (sentBytes_append rfl).trans (by simp [wireBytes])⟩
  obtain ⟨⟩ := h
  constructor <;> assumption

/-- A response that the state waits for. -/
theorem Phase.notes {f : Bytes} {k : PacketKind} (h : Phase c st ExitFlags.zero j t s) (hc : framingOk c = true) (hf : Carries c f k)
    (hd : (k = .syncRsp ∧ st = .uninitialized) ∨ (k = .configRsp ∧ st = .initialized)) :
    Takes s f (Phase c st exResponded j t) [] := by
  have hst : isTerminal st = false := by rcases hd with ⟨-, rfl⟩ | ⟨-, rfl⟩ <;> rfl
  obtain ⟨d, hq⟩ := h.takes hst hc hf
  have e : State.dispatch k d { s with rxSync := true, answers := List.replicate f.length .ok }
      = { s with rxSync := true, answers := List.replicate f.length .ok, exit := { s.exit with peerResponded := true } } := by
    rcases hd with ⟨rfl, rfl⟩ | ⟨rfl, rfl⟩ <;>
      simp [State.dispatch, State.dispatchSyncRsp, State.dispatchConfigRsp, h.state, State.onSyncRsp, State.onConfigRsp,
        State.notePeerResponded]
  rw [e] at hq
  rw [Takes, hq]
  refine ⟨?_, (sentBytes_append (l := []) (by simp [State.indicate])).trans rfl⟩
  have hx := h.exit
  obtain ⟨⟩ := h
  constructor <;> first | assumption | simp [hx, exResponded]

/-! ### Joint runs -/

/-- `Q` holds after some number of moves. -/
def Joined.Eventually (skew : Nat) (Q : Joined → Prop) (j : Joined) : Prop := ∃ n, Q (Joined.run skew n j)

theorem Joined.eventually_now {skew : Nat} {Q : Joined → Prop} {j : Joined} (h : Q j) : j.Eventually skew Q := ⟨0, h⟩

theorem Joined.eventually_next {skew : Nat} {Q : Joined → Prop} {j : Joined} (h : (j.next skew).Eventually skew Q) :
    j.Eventually skew Q := by
  obtain ⟨n, h⟩ := h
  exact ⟨n + 1, h⟩

variable {skew time : Nat} {Q : Joined → Prop} {a b : State} {f g : Bytes} {P P' R : State → Prop}

theorem State.indicate_nil (s : State) : s.indicate [] = s := by simp [State.indicate]

theorem State.indicate_inbound_ne (s : State) (hf : f ≠ []) : (s.indicate f).inbound.isEmpty = false := by
  simp [State.indicate, hf]

/-- The first block takes what has arrived. -/
theorem Joined.eventually_takeA (hb : b.inbound = []) (hf : f ≠ []) (ht : Takes a f R g)
    (h : ∀ a', R a' → Joined.Eventually skew Q ⟨a', b.indicate g, time⟩) : Joined.Eventually skew Q ⟨a.indicate f, b, time⟩ := by
  apply Joined.eventually_next
  simp only [Joined.next, hb, State.indicate_inbound_ne a hf, List.isEmpty_nil, Bool.not_true, Bool.not_false, Bool.false_eq_true,
      if_false,
    if_true, Joined.moveA, ht.2]
  exact h _ ht.1

/-- The second block takes what has arrived. -/
theorem Joined.eventually_takeB (hf : (b.indicate f).inbound.isEmpty = false) (ht : Takes b f R g)
    (h : ∀ b', R b' → Joined.Eventually skew Q ⟨a.indicate g, b', time⟩) : Joined.Eventually skew Q ⟨a, b.indicate f, time⟩ := by
  apply Joined.eventually_next
  simp only [Joined.next, hf, Bool.not_false, if_true, Joined.moveB, ht.2]
  exact h _ ht.1

/-- The second block fires. -/
theorem Joined.eventually_fireB (hb : b.inbound = []) (ha : a.inbound = []) (ho : time = skew → b.linkOpen = true)
    (hf : Fires b P f) (h : ∀ b', P b' → Joined.Eventually skew Q ⟨a.indicate f, b', time⟩)
        : Joined.Eventually skew Q ⟨a, b, time⟩ := by
  obtain ⟨i, h1, h2, h3⟩ := hf
  apply Joined.eventually_next
  have : (time == skew && !b.linkOpen) = false := by
    by_cases ht : time = skew <;> simp [ht, ho]
  simp only [Joined.next, hb, ha, List.isEmpty_nil, Bool.not_true, Bool.false_eq_true, if_false, this, h1, Joined.moveB, h3]
  exact h _ h2

/-- The first block fires when the second has nothing to do. -/
theorem Joined.eventually_fireA (hb : b.inbound = []) (ha : a.inbound = []) (ho : time = skew → b.linkOpen = true)
    (hn : b.readyStep = none) (hf : Fires a P f) (h : ∀ a', P a' → Joined.Eventually skew Q ⟨a', b.indicate f, time⟩) :
    Joined.Eventually skew Q ⟨a, b, time⟩ := by
  obtain ⟨i, h1, h2, h3⟩ := hf
  apply Joined.eventually_next
  have : (time == skew && !b.linkOpen) = false := by
    by_cases ht : time = skew <;> simp [ht, ho]
  simp only [Joined.next, hb, ha, List.isEmpty_nil, Bool.not_true, Bool.false_eq_true, if_false, this, hn, h1, Joined.moveA, h3]
  exact h _ h2

/-- The tick of both when neither has anything to do. -/
theorem Joined.eventually_tick (hb : b.inbound = []) (ha : a.inbound = []) (ho : time = skew → b.linkOpen = true)
    (hnb : b.readyStep = none) (hna : a.readyStep = none)
    (h : Joined.Eventually skew Q ⟨a.fireWith .ok .tick, b.fireWith .ok .tick, time + 1⟩) : Joined.Eventually skew Q ⟨a, b, time⟩ := by
  apply Joined.eventually_next
  have : (time == skew && !b.linkOpen) = false := by
    by_cases ht : time = skew <;> simp [ht, ho]
  simp only [Joined.next, hb, ha, List.isEmpty_nil, Bool.not_true, Bool.false_eq_true, if_false, this, hnb, hna]
  exact h

/-- A block whose link is closed (R52 (f)). -/
structure Shut (c : Cfg) (s : State) : Prop where
  cfg : s.cfg = c
  linkOpen : s.linkOpen = false
  state : isTerminal s.state = true
  txBusy : s.txBusy = false
  closePending : s.closePending = false
  tSm : s.tSm.armed = false
  tTx : s.tTx.armed = false
  tOpen : s.tOpen.armed = false

theorem Shut.consume_eq {b : Byte} (h : Shut c s) : (s.consume b) = s.clearRx := by
  simp [State.consume, State.receiving, h.linkOpen]

theorem Shut.consumeAll (bs : Bytes) : ∀ s, Shut c s →
    Shut c (State.consumeAll bs s) ∧ (State.consumeAll bs s).out = s.out ∧ (bs ≠ [] → (State.consumeAll bs s).inbound = []) := by
  induction bs with
  | nil => intro s h; exact ⟨h, rfl, fun h => absurd rfl h⟩
  | cons b bs ih =>
    intro s h
    have h' : Shut c { s with inbound := bs } := by obtain ⟨⟩ := h; constructor <;> assumption
    obtain ⟨h1, h2, h3⟩ := ih ({ s with inbound := bs }.clearRx) (by obtain ⟨⟩ := h; constructor <;> assumption)
    simp only [State.consumeAll, h'.consume_eq]
    refine ⟨h1, h2, fun _ => ?_⟩
    cases bs with
    | nil => rfl
    | cons x bs => exact h3 (by simp)

/-- A closed link takes every byte without effect. -/
theorem Shut.takes (h : Shut c s) (hi : s.inbound ++ f ≠ []) : Takes s f (fun u => Shut c u ∧ u.inbound = []) [] := by
  obtain ⟨h1, h2, h3⟩ := Shut.consumeAll (s.inbound ++ f)
    { s.indicate f with answers := List.replicate (s.indicate f).inbound.length .ok } (by obtain ⟨⟩ := h; constructor <;> assumption)
  refine ⟨⟨?_, h3 hi⟩, ?_⟩
  · obtain ⟨⟩ := h1; constructor <;> assumption
  · exact (sentBytes_append (l := []) (h2.trans (by simp))).trans rfl

theorem Shut.quiet (h : Shut c s) : s.readyStep = none ∧ (Shut c (s.fireWith .ok .tick)) ∧
    (s.fireWith .ok .tick).inbound = s.inbound := by
  have h1 : s.tSm.expired = false := by simp [Timer.expired, h.tSm]
  have h2 : s.tTx.expired = false := by simp [Timer.expired, h.tTx]
  have h3 : s.tOpen.expired = false := by simp [Timer.expired, h.tOpen]
  have hs := h.state
  refine ⟨?_, ?_⟩
  · have : s.enabledStep = none := by
      cases hst : s.state <;> simp [hst, isTerminal] at hs <;>
      simp [State.enabledStep, State.canSeqAbort, State.canSeqStart, State.canSeqReset, State.canSeqUninitOk,
        State.canSeqUninitNr, State.canSeqInitOk, State.canSeqInitNr, State.canSeqActive, State.canCloseDone, State.canTxAbort,
        hst, h.closePending, h.txBusy, h.linkOpen]
    simp [State.readyStep, this, State.dueExpiry, h1, h2, h3]
  · have e : s.fireWith .ok .tick = { s with answers := [] } := by
      simp [State.fireWith, exec, execTick, State.canTick, h1, h2, h3, Timer.tick, h.tSm, h.tTx, h.tOpen]
    rw [e]
    exact ⟨by obtain ⟨⟩ := h; constructor <;> assumption, rfl⟩

/-- An OPEN answered OK (R171). -/
theorem Shut.opens (h : Shut c s) : Phase c .start exOpened 0 none (s.fireWith .ok .hostOpen)
    ∧ sentBytes s (s.fireWith .ok .hostOpen) = [] := by
  have e : exec .hostOpen { s with answers := [.ok] } = .next (({ s with answers := [.ok] } : State).loadOpen.openTransport) := by
    simp [exec, execHostOpen, h.linkOpen]
  have e : s.fireWith .ok .hostOpen = { (({ s with answers := [.ok] } : State).loadOpen.openTransport) with answers := [] } := by
    simp [State.fireWith, e]
  rw [e]
  refine ⟨?_, (sentBytes_append (l := [.tq .tOpen .ok]) ?_).trans (by simp [wireBytes])⟩
  · constructor <;> simp [State.openTransport, State.loadOpen, State.request, State.noteAnswer, State.nextAnswer, State.arm,
      State.disarm,
      State.setTimer, h.cfg, ExitFlags.zero, exOpened]
  · simp [State.openTransport, State.loadOpen, State.request, State.noteAnswer, State.nextAnswer, State.arm, State.disarm,
      State.setTimer]

variable {sa sb : ConnState} {ea eb : ExitFlags} {ja jb d : Nat} {ta tb : Option Nat}

/-- The second block waits: an expiry of its `t_open` at most, and then the first fires. -/
theorem Joined.eventually_actA (hB : Phase c sb eb jb (tb.map (· + 1)) b) (hwB : waitFlags sb eb) (ha : a.inbound = [])
    (hf : Fires a P f) (h : ∀ a' b', P a' → Phase c sb eb jb
        (tb.map (· + 1)) b' → Joined.Eventually skew Q ⟨a', b'.indicate f, time⟩) :
    Joined.Eventually skew Q ⟨a, b, time⟩ := by
  have hne : tb.map (· + 1) ≠ some 0 := by cases tb <;> simp
  cases ho : b.tOpen.expired
  · exact Joined.eventually_fireA hB.inbound ha (fun _ => hB.linkOpen) (hB.tick hwB ho).1 hf (fun a' h' => h a' b h' hB)
  · refine Joined.eventually_fireB hB.inbound ha (fun _ => hB.linkOpen) (hB.fires_tOpenExpire hwB hne ho) ?_
    rintro b' ⟨hB', ho'⟩
    rw [State.indicate_nil]
    exact Joined.eventually_fireA hB'.inbound ha (fun _ => hB'.linkOpen) (hB'.tick hwB ho').1 hf (fun a' h' => h a' b' h' hB')

/-- A tick of two blocks that wait. -/
theorem Joined.eventually_tickBoth (hA : Phase c sa ea ja (ta.map (· + 1)) a) (hwA : waitFlags sa ea)
    (hB : Phase c sb eb jb (tb.map (· + 1)) b) (hwB : waitFlags sb eb)
    (h : ∀ a' b', Phase c sa ea ja ta a' → Phase c sb eb jb tb b' → Joined.Eventually skew Q ⟨a', b', time + 1⟩) :
    Joined.Eventually skew Q ⟨a, b, time⟩ := by
  have key : ∀ a b, Phase c sa ea ja (ta.map (· + 1)) a → a.tOpen.expired = false → Phase c sb eb jb (tb.map (· + 1)) b →
      Joined.Eventually skew Q ⟨a, b, time⟩ := by
    intro a b hA hoA hB
    have fin : ∀ b, Phase c sb eb jb (tb.map (· + 1)) b → b.tOpen.expired = false → Joined.Eventually skew Q ⟨a, b, time⟩ :=
      fun b hB hoB => Joined.eventually_tick hB.inbound hA.inbound (fun _ => hB.linkOpen) (hB.tick hwB hoB).1 (hA.tick hwA hoA).1
        (h _ _ (hA.tick hwA hoA).2 (hB.tick hwB hoB).2)
    cases hoB : b.tOpen.expired
    · exact fin b hB hoB
    · refine Joined.eventually_fireB hB.inbound hA.inbound (fun _ => hB.linkOpen)
        (hB.fires_tOpenExpire hwB (by cases tb <;> simp) hoB) ?_
      rintro b' ⟨hB', ho'⟩
      rw [State.indicate_nil]
      exact fin b' hB' ho'
  cases hoA : a.tOpen.expired
  · exact key a b hA hoA hB
  · refine Joined.eventually_actA hB hwB hA.inbound (hA.fires_tOpenExpire hwA (by cases ta <;> simp) hoA) ?_
    rintro a' b' ⟨hA', ho'⟩ hB'
    rw [State.indicate_nil]
    exact key a' b' hA' ho' hB'

/-- `n` ticks of two blocks that wait. -/
theorem Joined.eventually_ticks (n : Nat) : ∀ a b time, Phase c sa ea ja (ta.map (· + n)) a → waitFlags sa ea →
    Phase c sb eb jb (tb.map (· + n)) b → waitFlags sb eb →
    (∀ a' b', Phase c sa ea ja ta a' → Phase c sb eb jb tb b' → Joined.Eventually skew Q ⟨a', b', time + n⟩) →
    Joined.Eventually skew Q ⟨a, b, time⟩ := by
  induction n with
  | zero => intro a b time hA _ hB _ h; exact h a b (by simpa using hA) (by simpa using hB)
  | succ n ih =>
    intro a b time hA hwA hB hwB h
    have cv : ∀ t : Option Nat, t.map (· + (n + 1)) = (t.map (· + n)).map (· + 1) := by
      intro t; cases t <;> simp; omega
    rw [cv] at hA hB
    refine Joined.eventually_tickBoth hA hwA hB hwB fun a' b' hA' hB' => ih a' b' (time + 1) hA' hwA hB' hwB fun a'' b'' h1 h2 => ?_
    rw [Nat.add_assoc, Nat.add_comm 1 n]
    exact h a'' b'' h1 h2

/-- A block that takes nothing in for `d` more ticks: its link is closed, or it is in RESET. -/
def Nap (c : Cfg) (o : Bool) (d : Nat) (s : State) : Prop :=
  if o then ∃ j, Phase c .reset exResetSent j (some d) s else Shut c s ∧ s.inbound = []

theorem Nap.inbound {o : Bool} (h : Nap c o d s) : s.inbound = [] := by
  cases o
  · exact h.2
  · obtain ⟨j, h⟩ := h; exact h.inbound

/-- The first block fires while the second takes nothing in. -/
theorem Joined.eventually_napA {o : Bool} (hc : framingOk c = true) (hB : Nap c o (d + 1) b) (ho : o = false → time + (d + 1) = skew)
    (ha : a.inbound = []) (hf : Fires a P f) (hk : f = [] ∨ Carries c f .reset ∨ Carries c f .sync)
    (h : ∀ a' b', P a' → Nap c o (d + 1) b' → Joined.Eventually skew Q ⟨a', b', time⟩) : Joined.Eventually skew Q ⟨a, b, time⟩ := by
  cases o
  · have ht := ho rfl
    refine Joined.eventually_fireA hB.2 ha (fun h => by omega) hB.1.quiet.1 hf fun a' ha' => ?_
    rcases hk with rfl | hk
    · rw [State.indicate_nil]; exact h a' b ha' hB
    · have hn : f ≠ [] := by rcases hk with hk | hk <;> exact hk.ne_nil
      refine Joined.eventually_takeB (State.indicate_inbound_ne b hn) (hB.1.takes (by simp [hn])) fun b' hb' => ?_
      rw [State.indicate_nil]; exact h a' b' ha' hb'
  · obtain ⟨j, hB⟩ := hB
    refine Joined.eventually_actA (tb := some d) hB (.inl ⟨rfl, rfl⟩) ha hf fun a' b' ha' hb' => ?_
    rcases hk with rfl | hk
    · rw [State.indicate_nil]; exact h a' b' ha' ⟨j, hb'⟩
    · have hn : f ≠ [] := by rcases hk with hk | hk <;> exact hk.ne_nil
      have ht : Takes b' f (Phase c .reset exResetSent j (some (d + 1))) [] := by
        rcases hk with hk | hk
        · exact hb'.drops hc hk (.inl ⟨rfl, rfl⟩)
        · exact hb'.drops hc hk (.inr (.inl ⟨rfl, .inr rfl⟩))
      refine Joined.eventually_takeB (State.indicate_inbound_ne b' hn) ht fun b'' hb'' => ?_
      rw [State.indicate_nil]; exact h a' b'' ha' ⟨j, hb''⟩

/-- A tick while the second block takes nothing in. -/
theorem Joined.eventually_napTick {o : Bool} (hc : framingOk c = true) (hA : Phase c sa ea ja (ta.map (· + 1)) a)
    (hwA : waitFlags sa ea)
    (hB : Nap c o (d + 1) b) (ho : o = false → time + (d + 1) = skew)
    (h : ∀ a' b', Phase c sa ea ja ta a' → Nap c o d b' → Joined.Eventually skew Q ⟨a', b', time + 1⟩) :
    Joined.Eventually skew Q ⟨a, b, time⟩ := by
  cases o
  · have ht := ho rfl
    have fin : ∀ a b, Phase c sa ea ja (ta.map (· + 1)) a → a.tOpen.expired = false → Nap c false (d + 1) b →
        Joined.Eventually skew Q ⟨a, b, time⟩ := fun a b hA hoA hB =>
      Joined.eventually_tick hB.2 hA.inbound (fun h => by omega) hB.1.quiet.1 (hA.tick hwA hoA).1
        (h _ _ (hA.tick hwA hoA).2 ⟨hB.1.quiet.2.1, hB.1.quiet.2.2.trans hB.2⟩)
    cases hoA : a.tOpen.expired
    · exact fin a b hA hoA hB
    · exact Joined.eventually_napA hc hB ho hA.inbound (hA.fires_tOpenExpire hwA (by cases ta <;> simp) hoA) (.inl rfl)
        fun a' b' ha' hb' => fin a' b' ha'.1 ha'.2 hb'
  · obtain ⟨j, hB⟩ := hB
    exact Joined.eventually_tickBoth hA hwA (tb := some d) hB (.inl ⟨rfl, rfl⟩) fun a' b' ha' hb' => h a' b' ha' ⟨j, hb'⟩

/-- The parameters are valid and the frames carry their kinds. -/
structure Wired (c : Cfg) : Prop where
  framing : framingOk c = true
  budget : budgetOk c = true
  retx : durationOk c c.retxInterval = true
  settle : durationOk c c.resetSettle = true
  reset : Carries c (resetFrameOf c) .reset
  sync : Carries c (syncFrameOf c) .sync
  syncRsp : Carries c (syncRspFrameOf c) .syncRsp
  config : Carries c (configFrameOf c) .config
  configRsp : Carries c (configRspFrameOf c) .configRsp

/-- Both blocks are in ACTIVE. -/
abbrev Both (c : Cfg) (time : Nat) (j : Joined) : Prop :=
  (∃ n, Phase c .active ExitFlags.zero n none j.a) ∧ (∃ n, Phase c .active ExitFlags.zero n none j.b) ∧ j.time = time

/-- The second block's CONFIG, sent again to a first block in ACTIVE, takes the second to ACTIVE. -/
theorem Joined.eventually_lastConfigB (w : Wired c) (hA : Phase c .active ExitFlags.zero ja none a)
    (hB : Phase c .initialized ExitFlags.zero (jb + 1) (some 0) b) :
    Joined.Eventually skew (Both c time) ⟨a, b, time⟩ := by
  refine Joined.eventually_fireB hB.inbound hA.inbound (fun _ => hB.linkOpen) (hB.fires_retry (.inr ⟨rfl, rfl⟩) w.retx)
      fun b' hB' => ?_
  refine Joined.eventually_takeA hB'.inbound w.config.ne_nil (hA.answers w.framing w.config (.inr ⟨rfl, rfl, .inr rfl⟩))
      fun a' hA' => ?_
  refine Joined.eventually_takeB (State.indicate_inbound_ne _ w.configRsp.ne_nil)
      (hB'.notes w.framing w.configRsp (.inr ⟨rfl, rfl⟩)) fun b'' hB'' => ?_
  rw [State.indicate_nil]
  refine Joined.eventually_fireB hB''.inbound hA'.inbound (fun _ => hB''.linkOpen) hB''.fires_seqInitOk fun b3 hB3 => ?_
  rw [State.indicate_nil]
  exact Joined.eventually_now ⟨⟨_, hA'⟩, ⟨_, hB3⟩, rfl⟩

/-- The first block's CONFIG, sent to a second that waits in INITIALIZED or ACTIVE, takes the first to ACTIVE. -/
theorem Joined.eventually_configA (w : Wired c) (ha : a.inbound = [])
    (hf : Fires a (Phase c .initialized ExitFlags.zero ja ta) (configFrameOf c))
    (hB : Phase c sb ExitFlags.zero jb (tb.map (· + 1)) b) (hsb : sb = .initialized ∨ sb = .active)
    (h : ∀ a' b', Phase c .active ExitFlags.zero ja none a' → Phase c sb ExitFlags.zero jb
        (tb.map (· + 1)) b' → Joined.Eventually skew Q ⟨a', b', time⟩) :
    Joined.Eventually skew Q ⟨a, b, time⟩ := by
  have hw : waitFlags sb ExitFlags.zero := .inr ⟨by tauto, rfl⟩
  refine Joined.eventually_actA hB hw ha hf fun a1 b1 h1 hb1 => ?_
  refine Joined.eventually_takeB (State.indicate_inbound_ne _ w.config.ne_nil)
      (hb1.answers w.framing w.config (.inr ⟨rfl, rfl, hsb⟩)) fun b2 hb2 => ?_
  refine Joined.eventually_takeA hb2.inbound w.configRsp.ne_nil (h1.notes w.framing w.configRsp (.inr ⟨rfl, rfl⟩)) fun a2 h2 => ?_
  rw [State.indicate_nil]
  refine Joined.eventually_actA hb2 hw h2.inbound h2.fires_seqInitOk fun a3 b3 h3 hb3 => ?_
  rw [State.indicate_nil]
  exact h a3 b3 h3 hb3

/-- The first block's SYNC, sent again to a second that waits in INITIALIZED, takes the first to ACTIVE. -/
theorem Joined.eventually_syncA (w : Wired c) (hA : Phase c .uninitialized ExitFlags.zero (ja + 1) (some 0) a)
    (hB : Phase c .initialized ExitFlags.zero jb (tb.map (· + 1)) b)
    (h : ∀ a' b', Phase c .active ExitFlags.zero (c.retryBudget - 1) none a' → Phase c .initialized ExitFlags.zero jb
        (tb.map (· + 1)) b' → Joined.Eventually skew Q ⟨a', b', time⟩) :
    Joined.Eventually skew Q ⟨a, b, time⟩ := by
  have hw : waitFlags .initialized ExitFlags.zero := .inr ⟨by tauto, rfl⟩
  refine Joined.eventually_actA hB hw hA.inbound (hA.fires_retry (.inl ⟨rfl, rfl⟩) w.retx) fun a1 b1 h1 hb1 => ?_
  refine Joined.eventually_takeB (State.indicate_inbound_ne _ w.sync.ne_nil)
      (hb1.answers w.framing w.sync (.inl ⟨rfl, rfl, .inr rfl⟩)) fun b2 hb2 => ?_
  refine Joined.eventually_takeA hb2.inbound w.syncRsp.ne_nil (h1.notes w.framing w.syncRsp (.inl ⟨rfl, rfl⟩)) fun a2 h2 => ?_
  rw [State.indicate_nil]
  exact Joined.eventually_configA w h2.inbound (h2.fires_seqUninitOk w.retx w.budget) hb2 (.inl rfl) h

/-- Where the first block is at `time`, before it has fired what is due. -/
def Progress (c : Cfg) (time : Nat) (a : State) : Prop :=
  (∃ j m, Phase c .reset exResetSent j (some m) a ∧ time + m = ticks c c.resetSettle)
    ∨ ∃ j m, Phase c .uninitialized ExitFlags.zero j (some m) a ∧ m < ticks c c.retxInterval
        ∧ time + m + j * ticks c c.retxInterval = ticks c c.resetSettle + c.retryBudget * ticks c c.retxInterval

/-- Where the first block is at `time`, once it has fired what is due. -/
def Settled (c : Cfg) (time : Nat) (a : State) : Prop :=
  (∃ j m, Phase c .reset exResetSent j (some (m + 1)) a ∧ time + (m + 1) = ticks c c.resetSettle)
    ∨ ∃ j m, Phase c .uninitialized ExitFlags.zero j (some (m + 1)) a ∧ m < ticks c c.retxInterval
        ∧ time + (m + 1) + j * ticks c c.retxInterval = ticks c c.resetSettle + c.retryBudget * ticks c c.retxInterval

theorem Progress.inbound (h : Progress c time a) : a.inbound = [] := by
  rcases h with ⟨j, m, h, -⟩ | ⟨j, m, h, -⟩ <;> exact h.inbound

theorem Wired.pos (w : Wired c) : 1 ≤ ticks c c.retxInterval ∧ 1 ≤ ticks c c.resetSettle ∧ 1 ≤ c.retryBudget := by
  have h1 := w.retx
  have h2 := w.settle
  have h3 := w.budget
  simp only [durationOk, budgetOk, Bool.and_eq_true, decide_eq_true_eq] at h1 h2 h3
  omega

/-- The first block fires what is due while the second takes nothing in. -/
theorem Joined.eventually_settleA {o : Bool} (w : Wired c) (hA : Progress c time a) (hB : Nap c o (d + 1) b)
    (ho : o = false → time + (d + 1) = skew)
    (ht : time + ticks c c.retxInterval ≤ ticks c c.resetSettle + c.retryBudget * ticks c c.retxInterval)
    (h : ∀ a' b', Settled c time a' → Nap c o (d + 1) b' → Joined.Eventually skew Q ⟨a', b', time⟩) :
    Joined.Eventually skew Q ⟨a, b, time⟩ := by
  obtain ⟨hr, hs, hn⟩ := Wired.pos w
  rcases hA with ⟨j, m, hA, e⟩ | ⟨j, m, hA, hm, e⟩
  · cases m with
    | succ m => exact h a b (.inl ⟨j, m, hA, e⟩) hB
    | zero =>
      refine Joined.eventually_napA w.framing hB ho hA.inbound hA.fires_settle (.inl rfl) fun a1 b1 h1 hb1 => ?_
      refine Joined.eventually_napA w.framing hb1 ho h1.inbound (h1.fires_seqReset w.retx w.budget) (.inr (.inr w.sync))
          fun a2 b2 h2 hb2 => ?_
      refine h a2 b2 (.inr ⟨c.retryBudget - 1, ticks c c.retxInterval - 1, ?_, by omega, ?_⟩) hb2
      · rw [Nat.sub_add_cancel hr]; exact h2
      · have : c.retryBudget * ticks c c.retxInterval = (c.retryBudget - 1) * ticks c c.retxInterval + ticks c c.retxInterval := by
          obtain ⟨k, hk⟩ : ∃ k, c.retryBudget = k + 1 := ⟨c.retryBudget - 1, by omega⟩
          rw [hk, Nat.add_sub_cancel, Nat.add_mul, Nat.one_mul]
        omega
  · cases m with
    | succ m => exact h a b (.inr ⟨j, m, hA, by omega, e⟩) hB
    | zero =>
      cases j with
      | zero => simp at e; omega
      | succ j =>
        refine Joined.eventually_napA w.framing hB ho hA.inbound (hA.fires_retry (.inl ⟨rfl, rfl⟩) w.retx) (.inr (.inr w.sync))
            fun a2 b2 h2 hb2 => ?_
        refine h a2 b2 (.inr ⟨j, ticks c c.retxInterval - 1, ?_, by omega, ?_⟩) hb2
        · rw [Nat.sub_add_cancel hr]; exact h2
        · rw [Nat.add_mul, Nat.one_mul] at e; omega

/-- `d` ticks while the second block takes nothing in. -/
theorem Joined.eventually_march {o : Bool} (w : Wired c) (d : Nat) : ∀ a b time, Progress c time a → Nap c o d b →
    (o = false → time + d = skew) →
    time + d + ticks c c.retxInterval ≤ ticks c c.resetSettle + c.retryBudget * ticks c c.retxInterval →
    (∀ a' b', Progress c (time + d) a' → Nap c o 0 b' → Joined.Eventually skew Q ⟨a', b', time + d⟩) →
    Joined.Eventually skew Q ⟨a, b, time⟩ := by
  induction d with
  | zero => intro a b time hA hB _ _ h; exact h a b hA hB
  | succ d ih =>
    intro a b time hA hB ho ht h
    refine Joined.eventually_settleA w hA hB ho (by omega) fun a1 b1 h1 hb1 => ?_
    have e : time + (d + 1) = time + 1 + d := by omega
    rw [e] at h ht
    rcases h1 with ⟨j, m, h1, e1⟩ | ⟨j, m, h1, hm, e1⟩
    · refine Joined.eventually_napTick w.framing (ta := some m) h1 (.inl ⟨rfl, rfl⟩) hb1 ho fun a2 b2 h2 hb2 => ?_
      exact ih a2 b2 (time + 1) (.inl ⟨j, m, h2, by omega⟩) hb2 (fun h => by have := ho h; omega) ht h
    · refine Joined.eventually_napTick w.framing (ta := some m) h1 (.inr ⟨by tauto, rfl⟩) hb1 ho fun a2 b2 h2 hb2 => ?_
      exact ih a2 b2 (time + 1) (.inr ⟨j, m, h2, hm, by omega⟩) hb2 (fun h => by have := ho h; omega) ht h

/-- The second block leaves RESET while the first is still there or has a SYNC left to send: one interval later both are in ACTIVE. -/
theorem Joined.eventually_active (w : Wired c) (hN : 2 ≤ c.retryBudget) (hA : Progress c time a)
    (hB : Phase c .reset exResetSent jb (some 0) b)
    (hlo : ticks c c.resetSettle ≤ time)
    (ht : time + ticks c c.retxInterval ≤ ticks c c.resetSettle + c.retryBudget * ticks c c.retxInterval) :
    Joined.Eventually skew (Both c (time + ticks c c.retxInterval)) ⟨a, b, time⟩ := by
  obtain ⟨hr, hs, hn⟩ := Wired.pos w
  obtain ⟨N, hNe⟩ : ∃ N, c.retryBudget - 1 = N + 1 := ⟨c.retryBudget - 2, by omega⟩
  obtain ⟨r, hre⟩ : ∃ r, ticks c c.retxInterval = r + 1 := ⟨ticks c c.retxInterval - 1, by omega⟩
  refine Joined.eventually_fireB hB.inbound hA.inbound (fun _ => hB.linkOpen) hB.fires_settle fun b1 hb1 => ?_
  rw [State.indicate_nil]
  refine Joined.eventually_fireB hb1.inbound hA.inbound (fun _ => hb1.linkOpen) (hb1.fires_seqReset w.retx w.budget) fun b2 hb2 => ?_
  rcases hA with ⟨j, m, hA, e⟩ | ⟨j, m, hA, hm, e⟩
  · obtain rfl : m = 0 := by omega
    refine Joined.eventually_takeA hb2.inbound w.sync.ne_nil (hA.drops w.framing w.sync (.inr (.inl ⟨rfl, .inr rfl⟩))) fun a1 h1 => ?_
    rw [State.indicate_nil]
    rw [hre] at hb2
    refine Joined.eventually_actA (tb := some r) hb2 (.inr ⟨by tauto, rfl⟩) h1.inbound h1.fires_settle fun a2 b3 h2 hb3 => ?_
    rw [State.indicate_nil]
    refine Joined.eventually_actA (tb := some r) hb3 (.inr ⟨by tauto, rfl⟩) h2.inbound (h2.fires_seqReset w.retx w.budget)
        fun a3 b4 h3 hb4 => ?_
    refine Joined.eventually_takeB (State.indicate_inbound_ne _ w.sync.ne_nil)
        (hb4.answers w.framing w.sync (.inl ⟨rfl, rfl, .inl rfl⟩)) fun b5 hb5 => ?_
    refine Joined.eventually_takeA hb5.inbound w.syncRsp.ne_nil (h3.notes w.framing w.syncRsp (.inl ⟨rfl, rfl⟩)) fun a4 h4 => ?_
    rw [State.indicate_nil]
    refine Joined.eventually_actA (tb := some r) hb5 (.inr ⟨by tauto, rfl⟩) h4.inbound (h4.fires_seqUninitOk w.retx w.budget)
        fun a5 b6 h5 hb6 => ?_
    refine Joined.eventually_takeB (State.indicate_inbound_ne _ w.config.ne_nil)
        (hb6.drops w.framing w.config (.inr (.inr ⟨rfl, by tauto⟩))) fun b7 hb7 => ?_
    rw [State.indicate_nil]
    rw [hre] at h5
    have hA6 : Phase c .initialized ExitFlags.zero (c.retryBudget - 1) ((some 0).map (· + (r + 1))) a5 := by simpa using h5
    have hB6 : Phase c .uninitialized ExitFlags.zero (c.retryBudget - 1) ((some 0).map (· + (r + 1))) b7 := by simpa using hb7
    rw [hNe] at hA6 hB6
    refine Joined.eventually_ticks (r + 1) a5 b7 time hA6 (.inr ⟨by tauto, rfl⟩) hB6 (.inr ⟨by tauto, rfl⟩) fun a8 b8 h8 hb8 => ?_
    rw [hre]
    refine Joined.eventually_fireB hb8.inbound h8.inbound (fun _ => hb8.linkOpen) (hb8.fires_retry (.inl ⟨rfl, rfl⟩) w.retx)
        fun b9 hb9 => ?_
    refine Joined.eventually_takeA hb9.inbound w.sync.ne_nil (h8.answers w.framing w.sync (.inl ⟨rfl, rfl, .inr rfl⟩)) fun a9 h9 => ?_
    refine Joined.eventually_takeB (State.indicate_inbound_ne _ w.syncRsp.ne_nil)
        (hb9.notes w.framing w.syncRsp (.inl ⟨rfl, rfl⟩)) fun b10 hb10 => ?_
    rw [State.indicate_nil]
    refine Joined.eventually_fireB hb10.inbound h9.inbound (fun _ => hb10.linkOpen) (hb10.fires_seqUninitOk w.retx w.budget)
        fun b11 hb11 => ?_
    refine Joined.eventually_takeA hb11.inbound w.config.ne_nil (h9.answers w.framing w.config (.inr ⟨rfl, rfl, .inl rfl⟩))
        fun a12 h12 => ?_
    refine Joined.eventually_takeB (State.indicate_inbound_ne _ w.configRsp.ne_nil)
        (hb11.notes w.framing w.configRsp (.inr ⟨rfl, rfl⟩)) fun b13 hb13 => ?_
    rw [State.indicate_nil]
    refine Joined.eventually_fireB hb13.inbound h12.inbound (fun _ => hb13.linkOpen) hb13.fires_seqInitOk fun b14 hb14 => ?_
    rw [State.indicate_nil]
    refine Joined.eventually_configA w (tb := none) h12.inbound (h12.fires_retry (.inr ⟨rfl, rfl⟩) w.retx) hb14 (.inr rfl)
        fun a15 b15 h15 hb15 => ?_
    exact Joined.eventually_now ⟨⟨_, h15⟩, ⟨_, hb15⟩, rfl⟩
  · have hj : ∃ k, j = k + 1 := by
      cases j with
      | zero => simp at e; omega
      | succ k => exact ⟨k, rfl⟩
    obtain ⟨k, rfl⟩ := hj
    obtain ⟨p, hp⟩ : ∃ p, ticks c c.retxInterval = m + (p + 1) := ⟨ticks c c.retxInterval - m - 1, by omega⟩
    refine Joined.eventually_takeA hb2.inbound w.sync.ne_nil (hA.answers w.framing w.sync (.inl ⟨rfl, rfl, .inl rfl⟩)) fun a1 h1 => ?_
    refine Joined.eventually_takeB (State.indicate_inbound_ne _ w.syncRsp.ne_nil)
        (hb2.notes w.framing w.syncRsp (.inl ⟨rfl, rfl⟩)) fun b3 hb3 => ?_
    rw [State.indicate_nil]
    refine Joined.eventually_fireB hb3.inbound h1.inbound (fun _ => hb3.linkOpen) (hb3.fires_seqUninitOk w.retx w.budget)
        fun b4 hb4 => ?_
    refine Joined.eventually_takeA hb4.inbound w.config.ne_nil (h1.drops w.framing w.config (.inr (.inr ⟨rfl, by tauto⟩)))
        fun a2 h2 => ?_
    rw [State.indicate_nil]
    have hA6 : Phase c .uninitialized ExitFlags.zero (k + 1) ((some 0).map (· + m)) a2 := by simpa using h2
    have hB6 : Phase c .initialized ExitFlags.zero (c.retryBudget - 1) ((some (p + 1)).map (· + m)) b4 := by
      rw [Option.map_some, Nat.add_comm, ← hp]; exact hb4
    rw [hNe] at hB6
    refine Joined.eventually_ticks m a2 b4 time hA6 (.inr ⟨by tauto, rfl⟩) hB6 (.inr ⟨by tauto, rfl⟩) fun a8 b8 h8 hb8 => ?_
    refine Joined.eventually_syncA w (tb := some p) h8 hb8 fun a9 b9 h9 hb9 => ?_
    have hB7 : Phase c .initialized ExitFlags.zero (N + 1) ((some 0).map (· + (p + 1))) b9 := by simpa using hb9
    refine Joined.eventually_ticks (p + 1) a9 b9 (time + m) (ta := none) h9 (.inr ⟨by tauto, rfl⟩) hB7 (.inr ⟨by tauto, rfl⟩)
        fun a10 b10 h10 hb10 => ?_
    rw [hp, ← Nat.add_assoc]
    exact Joined.eventually_lastConfigB w h10 hb10

/-- The OPEN of the second block at its time. -/
theorem Joined.eventually_openB (hB : Shut c b ∧ b.inbound = []) (ha : a.inbound = []) (ht : time = skew)
    (h : ∀ b', Phase c .start exOpened 0 none b' → Joined.Eventually skew Q ⟨a, b', time⟩)
        : Joined.Eventually skew Q ⟨a, b, time⟩ := by
  apply Joined.eventually_next
  have e := hB.1.opens
  simp only [Joined.next, hB.2, ha, ht, hB.1.linkOpen, List.isEmpty_nil, Bool.not_true, Bool.not_false, BEq.rfl, Bool.and_true,
      Bool.false_eq_true, if_false, if_true, Joined.moveB, e.2, State.indicate_nil]
  exact ht ▸ h _ e.1


end Sys2Proof.Machine
end

