-- ==== Sys2Proof/Laws/PerInstr.lean ====
section
/-! SUPPORT. One law for each constructor of `Instr`: its encoding stands in the format of its row of the opcode table and is
not empty, whatever its operands. -/

namespace Sys2Proof.Laws.Encoding

open Sys2Proof

/-- The column "format" of spec/opcode_table.json. -/
def rowFormat (i : Instr) : Format :=
  match i with
  | .delim => .slip
  | .escDelimToken => .slip
  | .escEscToken => .slip
  | .literal _ => .slip
  | .escInvalid _ => .slip
  | .kAck _ => .h5hdr
  | .kData _ => .h5hdr
  | .kDataUnrel _ => .h5hdr
  | .kReset _ => .h5hdr
  | .kSync _ => .h5hdr
  | .kSyncRsp _ => .h5hdr
  | .kConfig _ => .h5hdr
  | .kConfigRsp _ => .h5hdr
  | .kOther _ => .h5hdr
  | .resetFrame => .txframe
  | .syncFrame => .txframe
  | .syncRspFrame => .txframe
  | .configFrame => .txframe
  | .configRspFrame => .txframe
  | .ackFrame _ => .txframe
  | .dataFrame _ _ _ => .txframe
  | .frameEncode _ => .fn
  | .frameDecode _ => .fn
  | .pktEncode _ _ _ _ _ _ => .fn
  | .pktDecode _ => .fn
  | .seqInc _ => .fn
  | .hostOpen => .hc
  | .hostClose => .hc
  | .hostSend _ => .hc
  | .tData _ => .ti
  | .tStatus _ _ => .ti
  | .tLog _ _ => .ti
  | .rxByte => .evt
  | .rxFrame _ _ => .evt
  | .rxSyncRsp => .evt
  | .rxSync => .evt
  | .rxSyncActive => .evt
  | .rxConfigRsp => .evt
  | .rxConfig => .evt
  | .rxAck _ => .evt
  | .rxData _ => .evt
  | .seqAbort => .evt
  | .seqStart => .evt
  | .seqReset => .evt
  | .seqUninitOk => .evt
  | .seqUninitNr => .evt
  | .seqInitOk => .evt
  | .seqInitNr => .evt
  | .seqActive => .evt
  | .closeDone => .evt
  | .txAbort => .evt
  | .tSmExpire => .evt
  | .tTxExpire => .evt
  | .tOpenExpire => .evt
  | .tick => .evt
  | .hwReset => .evt

/-- The encoding of `i` is a message of its row's format with at least one byte. -/
def Statement (i : Instr) : Prop := ∀ c : Cfg, (encode c i).format = rowFormat i ∧ (encode c i).bytes ≠ []

/-- A transmitted frame begins with the delimiter, so it is not empty (R131). -/
theorem template_ne_nil (c : Cfg) (p : Bytes) (sq a : BitVec 3) (r : Bool) (t : BitVec 4) :
    Machine.template c p sq a r t ≠ [] := by
  simp [Machine.template, Machine.encodeFrame]

/-- A packet record has its four header bytes, so it is not empty (R94). -/
theorem recordBytes_ne_nil (d : Packet) : recordBytes d ≠ [] := by simp [recordBytes]

theorem delim : Statement .delim := fun _ => ⟨rfl, List.cons_ne_nil _ _⟩
theorem escDelimToken : Statement .escDelimToken := fun _ => ⟨rfl, List.cons_ne_nil _ _⟩
theorem escEscToken : Statement .escEscToken := fun _ => ⟨rfl, List.cons_ne_nil _ _⟩
theorem literal (b : Byte) : Statement (.literal b) := fun _ => ⟨rfl, List.cons_ne_nil _ _⟩
theorem escInvalid (x : Option Byte) : Statement (.escInvalid x) :=
  match x with
  | none => fun _ => ⟨rfl, List.cons_ne_nil _ _⟩
  | some _ => fun _ => ⟨rfl, List.cons_ne_nil _ _⟩
theorem kAck (d : Packet) : Statement (.kAck d) := fun _ => ⟨rfl, recordBytes_ne_nil d⟩
theorem kData (d : Packet) : Statement (.kData d) := fun _ => ⟨rfl, recordBytes_ne_nil d⟩
theorem kDataUnrel (d : Packet) : Statement (.kDataUnrel d) := fun _ => ⟨rfl, recordBytes_ne_nil d⟩
theorem kReset (d : Packet) : Statement (.kReset d) := fun _ => ⟨rfl, recordBytes_ne_nil d⟩
theorem kSync (d : Packet) : Statement (.kSync d) := fun _ => ⟨rfl, recordBytes_ne_nil d⟩
theorem kSyncRsp (d : Packet) : Statement (.kSyncRsp d) := fun _ => ⟨rfl, recordBytes_ne_nil d⟩
theorem kConfig (d : Packet) : Statement (.kConfig d) := fun _ => ⟨rfl, recordBytes_ne_nil d⟩
theorem kConfigRsp (d : Packet) : Statement (.kConfigRsp d) := fun _ => ⟨rfl, recordBytes_ne_nil d⟩
theorem kOther (d : Packet) : Statement (.kOther d) := fun _ => ⟨rfl, recordBytes_ne_nil d⟩
theorem resetFrame : Statement .resetFrame := fun _ => ⟨rfl, template_ne_nil _ _ _ _ _ _⟩
theorem syncFrame : Statement .syncFrame := fun _ => ⟨rfl, template_ne_nil _ _ _ _ _ _⟩
theorem syncRspFrame : Statement .syncRspFrame := fun _ => ⟨rfl, template_ne_nil _ _ _ _ _ _⟩
theorem configFrame : Statement .configFrame := fun _ => ⟨rfl, template_ne_nil _ _ _ _ _ _⟩
theorem configRspFrame : Statement .configRspFrame := fun _ => ⟨rfl, template_ne_nil _ _ _ _ _ _⟩
theorem ackFrame (a : BitVec 3) : Statement (.ackFrame a) := fun _ => ⟨rfl, template_ne_nil _ _ _ _ _ _⟩
theorem dataFrame (p : Bytes) (sq : BitVec 3) (a : BitVec 3) :
    Statement (.dataFrame p sq a) :=
  fun _ => ⟨rfl, template_ne_nil _ _ _ _ _ _⟩
theorem frameEncode (p : Bytes) : Statement (.frameEncode p) := fun _ => ⟨rfl, List.cons_ne_nil _ _⟩
theorem frameDecode (f : Bytes) : Statement (.frameDecode f) := fun _ => ⟨rfl, List.cons_ne_nil _ _⟩
theorem pktEncode (p : Bytes) (seq : Byte) (ack : Byte) (reliable : Bool) (integrity : Bool) (type : BitVec 4) :
    Statement (.pktEncode p seq ack reliable integrity type) :=
  fun _ => ⟨rfl, List.cons_ne_nil _ _⟩
theorem pktDecode (k : Bytes) : Statement (.pktDecode k) := fun _ => ⟨rfl, List.cons_ne_nil _ _⟩
theorem seqInc (n : BitVec 3) : Statement (.seqInc n) := fun _ => ⟨rfl, List.cons_ne_nil _ _⟩
theorem hostOpen : Statement .hostOpen := fun _ => ⟨rfl, List.cons_ne_nil _ _⟩
theorem hostClose : Statement .hostClose := fun _ => ⟨rfl, List.cons_ne_nil _ _⟩
theorem hostSend (p : Bytes) : Statement (.hostSend p) := fun _ => ⟨rfl, List.cons_ne_nil _ _⟩
theorem tData (bs : Bytes) : Statement (.tData bs) := fun _ => ⟨rfl, List.cons_ne_nil _ _⟩
theorem tStatus (code : BitVec 32) (m : Bytes) : Statement (.tStatus code m) := fun _ => ⟨rfl, List.cons_ne_nil _ _⟩
theorem tLog (sev : Byte) (m : Bytes) : Statement (.tLog sev m) := fun _ => ⟨rfl, List.cons_ne_nil _ _⟩
theorem rxByte : Statement .rxByte := fun _ => ⟨rfl, List.cons_ne_nil _ _⟩
theorem rxFrame (chunk : Bytes) (ovf : Bool) : Statement (.rxFrame chunk ovf) := fun _ => ⟨rfl, List.cons_ne_nil _ _⟩
theorem rxSyncRsp : Statement .rxSyncRsp := fun _ => ⟨rfl, List.cons_ne_nil _ _⟩
theorem rxSync : Statement .rxSync := fun _ => ⟨rfl, List.cons_ne_nil _ _⟩
theorem rxSyncActive : Statement .rxSyncActive := fun _ => ⟨rfl, List.cons_ne_nil _ _⟩
theorem rxConfigRsp : Statement .rxConfigRsp := fun _ => ⟨rfl, List.cons_ne_nil _ _⟩
theorem rxConfig : Statement .rxConfig := fun _ => ⟨rfl, List.cons_ne_nil _ _⟩
theorem rxAck (d : Packet) : Statement (.rxAck d) := fun _ => ⟨rfl, List.cons_ne_nil _ _⟩
theorem rxData (d : Packet) : Statement (.rxData d) := fun _ => ⟨rfl, List.cons_ne_nil _ _⟩
theorem seqAbort : Statement .seqAbort := fun _ => ⟨rfl, List.cons_ne_nil _ _⟩
theorem seqStart : Statement .seqStart := fun _ => ⟨rfl, List.cons_ne_nil _ _⟩
theorem seqReset : Statement .seqReset := fun _ => ⟨rfl, List.cons_ne_nil _ _⟩
theorem seqUninitOk : Statement .seqUninitOk := fun _ => ⟨rfl, List.cons_ne_nil _ _⟩
theorem seqUninitNr : Statement .seqUninitNr := fun _ => ⟨rfl, List.cons_ne_nil _ _⟩
theorem seqInitOk : Statement .seqInitOk := fun _ => ⟨rfl, List.cons_ne_nil _ _⟩
theorem seqInitNr : Statement .seqInitNr := fun _ => ⟨rfl, List.cons_ne_nil _ _⟩
theorem seqActive : Statement .seqActive := fun _ => ⟨rfl, List.cons_ne_nil _ _⟩
theorem closeDone : Statement .closeDone := fun _ => ⟨rfl, List.cons_ne_nil _ _⟩
theorem txAbort : Statement .txAbort := fun _ => ⟨rfl, List.cons_ne_nil _ _⟩
theorem tSmExpire : Statement .tSmExpire := fun _ => ⟨rfl, List.cons_ne_nil _ _⟩
theorem tTxExpire : Statement .tTxExpire := fun _ => ⟨rfl, List.cons_ne_nil _ _⟩
theorem tOpenExpire : Statement .tOpenExpire := fun _ => ⟨rfl, List.cons_ne_nil _ _⟩
theorem tick : Statement .tick := fun _ => ⟨rfl, List.cons_ne_nil _ _⟩
theorem hwReset : Statement .hwReset := fun _ => ⟨rfl, List.cons_ne_nil _ _⟩

end Sys2Proof.Laws.Encoding
end

