-- ==== Sys2Proof/Tests/Slice0.lean ====
section
/-! SUPPORT. The model's own tests: ill-formed terms that WellFormed refuses, a word from the spec's encodings for every
constructor, one step for every operation (expected results from spec/95_test_vectors.md and the rules named), and a witness
for every statement that has hypotheses. -/

namespace Sys2Proof.Tests

open Sys2Proof Machine Safety

/-! ### Small states -/

/-- The default parameters, with status code 3 an I/O error as in the programs of spec/95_test_vectors.md. -/
abbrev cfg3 : Cfg := { Cfg.default with ioErrors := .codes [3] }

/-- After hardware reset, with a transport that answers OK three times. -/
abbrev idle : State := { State.reset with cfg := cfg3, answers := [.ok, .ok, .ok] }

/-- An open link in the given state. -/
abbrev linkIn (st : ConnState) : State := { idle with state := st, linkOpen := true, rxSync := true }

/-- A SEND of `AA` in flight with number 0. -/
abbrev sending : State :=
  { linkIn .active with txBusy := true, txFrame := dataFrameOf cfg3 [0xAA] 0 0, txRetryCnt := 5, tTx := ⟨true, 250⟩ }

/-- The state after one operation. -/
def after (i : Instr) (s : State) : State :=
  match exec i s with
  | .next t => t
  | .fault _ => s
  | .refused _ => s

/-- The packet of spec/95_test_vectors.md V32 with another payload byte, numbers, `reliable` and type. -/
abbrev pkt (p : Bytes) (seq ack : BitVec 3) (reliable : Bool) (type : BitVec 4) : Packet :=
  ⟨p, seq, ack, false, BitVec.ofNat 12 p.length, 0, reliable, type⟩

/-! ### WellFormed refuses -/

theorem test_wf_refuses_literal_delim : Instr.wf cfg3 (.literal 0xC0) = false := by decide
theorem test_wf_refuses_literal_esc : Instr.wf cfg3 (.literal 0xDB) = false := by decide
theorem test_wf_refuses_escInvalid_delim : Instr.wf cfg3 (.escInvalid (some 0xDC)) = false := by decide
theorem test_wf_refuses_escInvalid_esc : Instr.wf cfg3 (.escInvalid (some 0xDD)) = false := by decide
theorem test_wf_refuses_kAck : Instr.wf cfg3 (.kAck (pkt [] 0 0 false 5)) = false := by decide
theorem test_wf_refuses_kData : Instr.wf cfg3 (.kData (pkt [] 0 0 false 14)) = false := by decide
theorem test_wf_refuses_kDataUnrel : Instr.wf cfg3 (.kDataUnrel (pkt [] 0 0 true 14)) = false := by decide
theorem test_wf_refuses_kReset : Instr.wf cfg3 (.kReset (pkt [] 0 0 false 0)) = false := by decide
theorem test_wf_refuses_kSync : Instr.wf cfg3 (.kSync (pkt [0x01, 0x7E, 0x00] 0 0 false 15)) = false := by decide
theorem test_wf_refuses_kSyncRsp : Instr.wf cfg3 (.kSyncRsp (pkt [0x01, 0x7E] 0 0 false 15)) = false := by decide
theorem test_wf_refuses_kConfig : Instr.wf cfg3 (.kConfig (pkt [0x03, 0xFC] 0 0 false 15)) = false := by decide
theorem test_wf_refuses_kConfigRsp : Instr.wf cfg3 (.kConfigRsp (pkt [0x03, 0xFC, 0x11] 0 0 false 15)) = false := by decide
theorem test_wf_refuses_kOther : Instr.wf cfg3 (.kOther (pkt [0x01, 0x7E] 0 0 false 15)) = false := by decide
theorem test_wf_refuses_declared_length : Instr.wf cfg3 (.kData { pkt [0xAA] 0 0 true 14 with payloadLength := 2 }) = false := by decide
theorem test_wf_refuses_rxFrame_inner_delim : Instr.wf cfg3 (.rxFrame [0xC0, 0x01, 0xC0, 0x02, 0xC0] false) = false := by decide
theorem test_wf_refuses_rxFrame_empty : Instr.wf cfg3 (.rxFrame [0xC0, 0xC0] false) = false := by decide
theorem test_wf_refuses_rxAck : Instr.wf cfg3 (.rxAck (pkt [] 0 0 true 14)) = false := by decide
theorem test_wf_refuses_rxData : Instr.wf cfg3 (.rxData (pkt [] 0 0 false 0)) = false := by decide

theorem test_wf_refuses_long_data_frame : Instr.wf cfg3 (.dataFrame (List.replicate 4096 0) 0 0) = false := by
  show decide ((List.replicate 4096 (0 : Byte)).length ≤ 4095) = false
  rw [List.length_replicate]
  decide

/-! ### Decode: one word of the spec for each constructor -/

/-- R90. -/
theorem test_decode_delim : decode cfg3 ⟨.slip, [0xC0]⟩ = .ok (.delim) := by decide
/-- R91 (a). -/
theorem test_decode_escDelimToken : decode cfg3 ⟨.slip, [0xDB, 0xDC]⟩ = .ok (.escDelimToken) := by decide
/-- R91 (b). -/
theorem test_decode_escEscToken : decode cfg3 ⟨.slip, [0xDB, 0xDD]⟩ = .ok (.escEscToken) := by decide
/-- R91 (c). -/
theorem test_decode_literal : decode cfg3 ⟨.slip, [0xDC]⟩ = .ok (.literal 0xDC) := by decide
/-- R91 (d), V11. -/
theorem test_decode_escInvalid : decode cfg3 ⟨.slip, [0xDB, 0x01]⟩ = .ok (.escInvalid (some 0x01)) := by decide
/-- R91 (d), V12. -/
theorem test_decode_escInvalid_end : decode cfg3 ⟨.slip, [0xDB]⟩ = .ok (.escInvalid none) := by decide
/-- V56. -/
theorem test_decode_kAck :
    decode cfg3 ⟨.h5hdr, [0x08, 0x00, 0x00, 0xF8]⟩ = .ok
      (.kAck ⟨[], 0, 1, false, 0, 0xF8, false, 0⟩) := by decide
/-- V20. -/
theorem test_decode_kData :
    decode cfg3 ⟨.h5hdr, [0x80, 0x1E, 0x00, 0x62, 0xAA]⟩ = .ok
      (.kData ⟨[0xAA], 0, 0, false, 1, 0x62, true, 14⟩) := by decide
/-- V31. -/
theorem test_decode_kData_fields :
    decode cfg3 ⟨.h5hdr, [0xB2, 0x8E, 0x00, 0xC0, 0x11, 0x22, 0x33, 0x44, 0x55, 0x66, 0x77, 0x88]⟩ = .ok
      (.kData ⟨[0x11, 0x22, 0x33, 0x44, 0x55, 0x66, 0x77, 0x88], 2, 6, false, 8, 0xC0, true, 14⟩) := by decide
/-- V21. -/
theorem test_decode_kDataUnrel :
    decode cfg3 ⟨.h5hdr, [0x00, 0x1E, 0x00, 0xE2, 0xAA]⟩ = .ok
      (.kDataUnrel ⟨[0xAA], 0, 0, false, 1, 0xE2, false, 14⟩) := by decide
/-- V50. -/
theorem test_decode_kReset :
    decode cfg3 ⟨.h5hdr, [0x00, 0x05, 0x00, 0xFB]⟩ = .ok
      (.kReset ⟨[], 0, 0, false, 0, 0xFB, false, 5⟩) := by decide
/-- V80. -/
theorem test_decode_kSync :
    decode cfg3 ⟨.h5hdr, [0x00, 0x2F, 0x00, 0xD1, 0x01, 0x7E]⟩ = .ok
      (.kSync ⟨[0x01, 0x7E], 0, 0, false, 2, 0xD1, false, 15⟩) := by decide
/-- V81. -/
theorem test_decode_kSyncRsp :
    decode cfg3 ⟨.h5hdr, [0x00, 0x2F, 0x00, 0xD1, 0x02, 0x7D]⟩ = .ok
      (.kSyncRsp ⟨[0x02, 0x7D], 0, 0, false, 2, 0xD1, false, 15⟩) := by decide
/-- V84. -/
theorem test_decode_kConfig :
    decode cfg3 ⟨.h5hdr, [0x00, 0x3F, 0x00, 0xC1, 0x03, 0xFC, 0x00]⟩ = .ok
      (.kConfig ⟨[0x03, 0xFC, 0x00], 0, 0, false, 3, 0xC1, false, 15⟩) := by decide
/-- V83. -/
theorem test_decode_kConfigRsp :
    decode cfg3 ⟨.h5hdr, [0x00, 0x3F, 0x00, 0xC1, 0x04, 0x7B, 0x11]⟩ = .ok
      (.kConfigRsp ⟨[0x04, 0x7B, 0x11], 0, 0, false, 3, 0xC1, false, 15⟩) := by decide
/-- V86. -/
theorem test_decode_kOther :
    decode cfg3 ⟨.h5hdr, [0x00, 0x3F, 0x00, 0xC1, 0x01, 0x7E, 0x00]⟩ = .ok
      (.kOther ⟨[0x01, 0x7E, 0x00], 0, 0, false, 3, 0xC1, false, 15⟩) := by decide
/-- V50. -/
theorem test_decode_resetFrame : decode cfg3 ⟨.txframe, [0xC0, 0x00, 0x05, 0x00, 0xFB, 0xC0]⟩ = .ok (.resetFrame) := by decide
/-- V51. -/
theorem test_decode_syncFrame :
    decode cfg3 ⟨.txframe, [0xC0, 0x00, 0x2F, 0x00, 0xD1, 0x01, 0x7E, 0xC0]⟩ = .ok
      (.syncFrame) := by decide
/-- V52. -/
theorem test_decode_syncRspFrame :
    decode cfg3 ⟨.txframe, [0xC0, 0x00, 0x2F, 0x00, 0xD1, 0x02, 0x7D, 0xC0]⟩ = .ok
      (.syncRspFrame) := by decide
/-- V53. -/
theorem test_decode_configFrame :
    decode cfg3 ⟨.txframe, [0xC0, 0x00, 0x3F, 0x00, 0xC1, 0x03, 0xFC, 0x11, 0xC0]⟩ = .ok
      (.configFrame) := by decide
/-- V54. -/
theorem test_decode_configRspFrame :
    decode cfg3 ⟨.txframe, [0xC0, 0x00, 0x3F, 0x00, 0xC1, 0x04, 0x7B, 0x11, 0xC0]⟩ = .ok
      (.configRspFrame) := by decide
/-- V62. -/
theorem test_decode_ackFrame : decode cfg3 ⟨.txframe, [0xC0, 0x38, 0x00, 0x00, 0xC8, 0xC0]⟩ = .ok (.ackFrame 7) := by decide
/-- V64. -/
theorem test_decode_dataFrame :
    decode cfg3 ⟨.txframe, [0xC0, 0x89, 0x2E, 0x00, 0x49, 0xDB, 0xDC, 0xDB, 0xDD, 0xC0]⟩ = .ok
      (.dataFrame [0xC0, 0xDB] 1 1) := by decide
/-- R108. -/
theorem test_decode_hostOpen : decode cfg3 ⟨.hc, [0x01]⟩ = .ok (.hostOpen) := by decide
/-- R108. -/
theorem test_decode_hostClose : decode cfg3 ⟨.hc, [0x02]⟩ = .ok (.hostClose) := by decide
/-- R108. -/
theorem test_decode_hostSend : decode cfg3 ⟨.hc, [0x03, 0xAA]⟩ = .ok (.hostSend [0xAA]) := by decide
/-- R111. -/
theorem test_decode_tData : decode cfg3 ⟨.ti, [0x01, 0xC0]⟩ = .ok (.tData [0xC0]) := by decide
/-- R111, log 12. -/
theorem test_decode_tStatus : decode cfg3 ⟨.ti, [0x02, 0x03, 0x00, 0x00, 0x00, 0xAA]⟩ = .ok (.tStatus 3 [0xAA]) := by decide
/-- R111, log 12. -/
theorem test_decode_tLog : decode cfg3 ⟨.ti, [0x03, 0x01, 0xAA]⟩ = .ok (.tLog 1 [0xAA]) := by decide
/-- log 12. -/
theorem test_decode_frameEncode : decode cfg3 ⟨.fn, [0x01, 0xC0]⟩ = .ok (.frameEncode [0xC0]) := by decide
/-- log 12. -/
theorem test_decode_frameDecode : decode cfg3 ⟨.fn, [0x02, 0xC0, 0xC0]⟩ = .ok (.frameDecode [0xC0, 0xC0]) := by decide
/-- log 12. -/
theorem test_decode_pktEncode :
    decode cfg3 ⟨.fn, [0x03, 0x09, 0x0A, 0x01, 0x0E, 0xAA]⟩ = .ok
      (.pktEncode [0xAA] 9 10 true false 14) := by decide
/-- log 12. -/
theorem test_decode_pktDecode : decode cfg3 ⟨.fn, [0x04, 0x00, 0x00, 0x00, 0x00]⟩ = .ok (.pktDecode [0, 0, 0, 0]) := by decide
/-- log 12. -/
theorem test_decode_seqInc : decode cfg3 ⟨.fn, [0x05, 0x07]⟩ = .ok (.seqInc 7) := by decide
/-- log 12. -/
theorem test_decode_rxFrame :
    decode cfg3 ⟨.evt, [0x02, 0x00, 0xC0, 0x01, 0xC0]⟩ = .ok
      (.rxFrame [0xC0, 0x01, 0xC0] false) := by decide
/-- V56, log 12. -/
theorem test_decode_rxAck :
    decode cfg3 ⟨.evt, [0x08, 0x08, 0x00, 0x00, 0xF8]⟩ = .ok
      (.rxAck ⟨[], 0, 1, false, 0, 0xF8, false, 0⟩) := by decide
/-- V20, log 12. -/
theorem test_decode_rxData :
    decode cfg3 ⟨.evt, [0x09, 0x80, 0x1E, 0x00, 0x62, 0xAA]⟩ = .ok
      (.rxData ⟨[0xAA], 0, 0, false, 1, 0x62, true, 14⟩) := by decide

/-- The events without operand: the EVT rows of the opcode table by their place (R113, log 12). -/
theorem test_decode_events :
    ([1, 3, 4, 5, 6, 7, 10, 11, 12, 13, 14, 15, 16, 17, 18, 19, 20, 21, 22, 23, 24].map fun n => decode cfg3 ⟨.evt, [n]⟩)
      = [.rxByte, .rxSyncRsp, .rxSync, .rxSyncActive, .rxConfigRsp, .rxConfig,
          .seqAbort, .seqStart, .seqReset, .seqUninitOk, .seqUninitNr, .seqInitOk, .seqInitNr,
          .seqActive, .closeDone, .txAbort, .tSmExpire, .tTxExpire, .tOpenExpire, .tick, .hwReset].map .ok := by
  decide

/-- Words that are no operation are refused by name (R106, R108). -/
theorem test_decode_refuses :
    decode cfg3 ⟨.slip, [0xC0, 0xC0]⟩ = .error .moreThanOneToken ∧ decode cfg3 ⟨.h5hdr, [0x80, 0x1E, 0x00]⟩ = .error .shortHeader
      ∧ decode cfg3 ⟨.h5hdr, [0x80, 0x1E, 0x00, 0x62]⟩ = .error .payloadLengthMismatch
      ∧ decode cfg3 ⟨.txframe, [0xC0, 0xC0]⟩ = .error .notATemplate ∧ decode cfg3 ⟨.hc, [0]⟩ = .error .noCommand
      ∧ decode cfg3 ⟨.hc, [4]⟩ = .error .bitsAbovePortCode ∧ decode cfg3 ⟨.ti, [0]⟩ = .error .noIndication
      ∧ decode cfg3 ⟨.evt, [25]⟩ = .error .unknownEvent ∧ decode cfg3 ⟨.fn, [6]⟩ = .error .unknownFunction := by
  decide

/-- Table words of R113: DELIM, ESC_DELIM_TOKEN, OPEN, K_RESET. -/
theorem test_table_words :
    decodeTableWord 8 0xC0 = some .delim ∧ decodeTableWord 16 0xDCDB = some .escDelimToken
      ∧ decodeTableWord 8 1 = some .hostOpen ∧ decodeTableWord 32 0x00000500 = some (.kReset (pkt [] 0 0 false 5)) := by
  decide

/-! ### One step of each operation -/

/-- V71: the delimiter closes the chunk `11 22`: LengthMismatch. -/
theorem test_delim :
    (after .delim { linkIn .active with rxBuf := [0x11, 0x22] }).out = [.up (.log (.decodeError .lengthMismatch 1))] := by decide
/-- R91, R138: both bytes go to the chunk as they are. -/
theorem test_escDelimToken : (after .escDelimToken (linkIn .active)).rxBuf = [0xDB, 0xDC] := by decide
/-- R91, R138. -/
theorem test_escEscToken : (after .escEscToken (linkIn .active)).rxBuf = [0xDB, 0xDD] := by decide
/-- V70: before a delimiter has been seen a byte is discarded uncounted. -/
theorem test_literal : (after (.literal 0xFF) { linkIn .active with rxSync := false }).rxBuf = [] := by decide
/-- V73: the malformed token is found when the chunk ends. -/
theorem test_escInvalid :
    (after .delim (after (.escInvalid (some 0x01)) (linkIn .active))).out
      = [.up (.log (.decodeError .malformedFrame 1))] := by decide
/-- V94. -/
theorem test_kAck_wrap :
    let u := after (.kAck (pkt [] 0 0 false 0)) { sending with seqNum := 7 }
    u.seqNum = 0 ∧ u.txBusy = false ∧ u.tTx.armed = false ∧ u.out = [.hr .send .ok] := by decide
/-- V97. -/
theorem test_kData_duplicate :
    let u := after (.kData (pkt [0x55] 0 0 true 14)) { linkIn .active with ackNum := 1 }
    u.ackNum = 1 ∧ u.out = [.tq (.tSend [0xC0, 0x08, 0x00, 0x00, 0xF8, 0xC0]) .ok] := by decide
/-- V99. -/
theorem test_kDataUnrel : after (.kDataUnrel (pkt [0x99] 0 0 false 14)) (linkIn .active) = linkIn .active := by decide
/-- V87. -/
theorem test_kReset : after (.kReset (pkt [] 0 0 false 5)) (linkIn .active) = linkIn .active := by decide
/-- V80: dropped in RESET. -/
theorem test_kSync_reset : after (.kSync (pkt [0x01, 0x7E] 0 0 false 15)) (linkIn .reset) = linkIn .reset := by decide
/-- V80. -/
theorem test_kSync_initialized :
    (after (.kSync (pkt [0x01, 0x7E] 0 0 false 15)) (linkIn .initialized)).out
      = [.tq (.tSend [0xC0, 0x00, 0x2F, 0x00, 0xD1, 0x02, 0x7D, 0xC0]) .ok] := by decide
/-- V81. -/
theorem test_kSyncRsp :
    (after (.kSyncRsp (pkt [0x02, 0x7D] 0 0 false 15)) (linkIn .uninitialized)).exit.peerResponded = true := by decide
/-- V84: answered with the block's own CONFIG_FIELD. -/
theorem test_kConfig :
    (after (.kConfig (pkt [0x03, 0xFC, 0x00] 0 0 false 15)) (linkIn .active)).out
      = [.tq (.tSend [0xC0, 0x00, 0x3F, 0x00, 0xC1, 0x04, 0x7B, 0x11, 0xC0]) .ok] := by decide
/-- V83: dropped in ACTIVE. -/
theorem test_kConfigRsp :
    after (.kConfigRsp (pkt [0x04, 0x7B, 0x11] 0 0 false 15)) (linkIn .active) = linkIn .active := by decide
/-- V85. -/
theorem test_kOther : after (.kOther (pkt [0x09, 0x09] 0 0 false 15)) (linkIn .active) = linkIn .active := by decide
/-- V50. -/
theorem test_resetFrame :
    (after .resetFrame (linkIn .active)).out = [.tq (.tSend [0xC0, 0x00, 0x05, 0x00, 0xFB, 0xC0]) .ok] := by decide
/-- V51. -/
theorem test_syncFrame :
    (after .syncFrame (linkIn .active)).out = [.tq (.tSend [0xC0, 0x00, 0x2F, 0x00, 0xD1, 0x01, 0x7E, 0xC0]) .ok] := by decide
/-- V52. -/
theorem test_syncRspFrame :
    (after .syncRspFrame (linkIn .active)).out
      = [.tq (.tSend [0xC0, 0x00, 0x2F, 0x00, 0xD1, 0x02, 0x7D, 0xC0]) .ok] := by decide
/-- V53. -/
theorem test_configFrame :
    (after .configFrame (linkIn .active)).out
      = [.tq (.tSend [0xC0, 0x00, 0x3F, 0x00, 0xC1, 0x03, 0xFC, 0x11, 0xC0]) .ok] := by decide
/-- V54. -/
theorem test_configRspFrame :
    (after .configRspFrame (linkIn .active)).out
      = [.tq (.tSend [0xC0, 0x00, 0x3F, 0x00, 0xC1, 0x04, 0x7B, 0x11, 0xC0]) .ok] := by decide
/-- V62. -/
theorem test_ackFrame :
    (after (.ackFrame 7) (linkIn .active)).out = [.tq (.tSend [0xC0, 0x38, 0x00, 0x00, 0xC8, 0xC0]) .ok] := by decide
/-- V64. -/
theorem test_dataFrame :
    (after (.dataFrame [0xC0, 0xDB] 1 1) (linkIn .active)).out
      = [.tq (.tSend [0xC0, 0x89, 0x2E, 0x00, 0x49, 0xDB, 0xDC, 0xDB, 0xDD, 0xC0]) .ok] := by decide
/-- R68 (3): an answer ERR is noted. -/
theorem test_emit_error : (after .syncFrame { linkIn .active with answers := [.err] }).exit.ioError = true := by decide
/-- V5. -/
theorem test_frameEncode :
    (after (.frameEncode [0x01, 0xC0, 0xDB, 0x02]) idle).out
      = [.fn (.frame [0xC0, 0x01, 0xDB, 0xDC, 0xDB, 0xDD, 0x02, 0xC0])] := by decide
/-- V13. -/
theorem test_frameDecode :
    (after (.frameDecode [0xC0, 0xDB, 0xDB, 0xDC, 0xC0]) idle).out = [.fn (.unframed (.error .malformedFrame))] := by decide
/-- V9. -/
theorem test_frameDecode_empty : (after (.frameDecode [0xC0, 0xC0]) idle).out = [.fn (.unframed (.ok []))] := by decide
/-- V30: the numbers are reduced modulo 8. -/
theorem test_pktEncode :
    (after (.pktEncode [] 9 10 true false 14) idle).out = [.fn (.packet (.ok [0x91, 0x0E, 0x00, 0x61]))] := by decide
/-- V28. -/
theorem test_pktEncode_fault :
    let u := after (.pktEncode [] 0 0xFF false false 0) idle
    u.flt = true ∧ u.out = [] := by decide
/-- V31. -/
theorem test_pktDecode :
    (after (.pktDecode [0xB2, 0x8E, 0x00, 0xC0, 0x11, 0x22, 0x33, 0x44, 0x55, 0x66, 0x77, 0x88]) idle).out
      = [.fn (.record (.ok ⟨[0x11, 0x22, 0x33, 0x44, 0x55, 0x66, 0x77, 0x88], 2, 6, false, 8, 0xC0, true, 14⟩))] := by decide
/-- V34 to V38: `00 05 00 FA 99` has both errors, the checksum comes first. -/
theorem test_pktDecode_order :
    (after (.pktDecode [0x00, 0x05, 0x00, 0xFA, 0x99]) idle).out = [.fn (.record (.error .headerChecksumMismatch))] := by decide
/-- V41. -/
theorem test_seqInc : (after (.seqInc 7) idle).out = [.fn (.number 0)] := by decide
/-- V110. -/
theorem test_hostOpen :
    let u := after .hostOpen idle
    u.state = .start ∧ u.linkOpen = true ∧ u.exit.opened = true ∧ u.tOpen = ⟨true, 3000⟩ ∧ u.out = [.tq .tOpen .ok] := by decide
/-- V112. -/
theorem test_hostOpen_open : (after .hostOpen (linkIn .failed)).out = [.hr .opn .invalidState] := by decide
/-- V113. -/
theorem test_hostClose : (after .hostClose idle).out = [.hr .close .invalidState] := by decide
/-- V115, first step. -/
theorem test_hostClose_open :
    let u := after .hostClose (linkIn .uninitialized)
    u.exit.close = true ∧ u.closePending = true ∧ u.out = [] := by decide
/-- V103: an empty payload. -/
theorem test_hostSend :
    let u := after (.hostSend []) (linkIn .active)
    u.txBusy = true ∧ u.txRetryCnt = 5 ∧ u.tTx = ⟨true, 250⟩
      ∧ u.out = [.tq (.tSend [0xC0, 0x80, 0x0E, 0x00, 0x72, 0xC0]) .ok] := by decide
/-- P7: not accepted while a SEND is in flight. -/
theorem test_hostSend_stalls : (after (.hostSend [0x02]) sending).hcWait = [[0x02]] := by decide
/-- R136. -/
theorem test_tData : (after (.tData [0x01, 0x02]) { idle with inbound := [0x00] }).inbound = [0x00, 0x01, 0x02] := by decide
/-- V116, V117, V119. -/
theorem test_tStatus :
    (after (.tStatus 3 []) (linkIn .active)).exit.ioError = true ∧ (after (.tStatus 7 []) (linkIn .active)).exit.ioError = false
      ∧ (after (.tStatus 3 []) idle).exit.ioError = false := by decide
/-- V118. -/
theorem test_tLog : (after (.tLog 1 [0xAA]) idle).out = [.up (.log (.transport 1 [0xAA]))] := by decide
/-- V76: a byte beyond RX_BUF_MAX sets `rx_ovf` and is lost. -/
theorem test_rxByte_overflow :
    let u := after .rxByte { linkIn .active with cfg := { cfg3 with rxBufMax := 1 }, rxBuf := [0x00], inbound := [0x00] }
    u.rxOvf = true ∧ u.rxBuf = [0x00] := by decide
/-- V77. -/
theorem test_rxByte_closed :
    let u := after .rxByte { linkIn .noResponse with rxBuf := [0x01], inbound := [0x00] }
    u.rxSync = false ∧ u.rxBuf = [] ∧ u.errCount = 0 := by decide
/-- V72. -/
theorem test_rxFrame :
    let u := after (.rxFrame [0xC0, 0x00, 0x05, 0x00, 0xFA, 0xC0] false) (linkIn .active)
    u.errCount = 1 ∧ u.out = [.up (.log (.decodeError .headerChecksumMismatch 1))] := by decide
/-- V96. -/
theorem test_rxFrame_data :
    let u := after (.rxFrame [0xC0, 0x80, 0x1E, 0x00, 0x62, 0x55, 0xC0] false) (linkIn .active)
    u.ackNum = 1 ∧ u.out = [.tq (.tSend [0xC0, 0x08, 0x00, 0x00, 0xF8, 0xC0]) .ok, .up (.data [0x55])] := by decide
/-- R197: not in INITIALIZED. -/
theorem test_rxSyncRsp : (after .rxSyncRsp (linkIn .initialized)).exit.peerResponded = false := by decide
/-- V80. -/
theorem test_rxSync :
    (after .rxSync (linkIn .uninitialized)).out
      = [.tq (.tSend [0xC0, 0x00, 0x2F, 0x00, 0xD1, 0x02, 0x7D, 0xC0]) .ok] := by decide
/-- V80. -/
theorem test_rxSyncActive : (after .rxSyncActive (linkIn .active)).exit.syncReceived = true := by decide
/-- V83. -/
theorem test_rxConfigRsp : (after .rxConfigRsp (linkIn .initialized)).exit.peerResponded = true := by decide
/-- V82. -/
theorem test_rxConfig :
    (after .rxConfig (linkIn .initialized)).out
      = [.tq (.tSend [0xC0, 0x00, 0x3F, 0x00, 0xC1, 0x04, 0x7B, 0x11, 0xC0]) .ok] := by decide
/-- V93. -/
theorem test_rxAck :
    let u := after (.rxAck (pkt [] 0 3 false 0)) (linkIn .active)
    u.exit.syncError = true ∧ u.seqNum = 0 := by decide
/-- V95. -/
theorem test_rxAck_idle :
    let u := after (.rxAck (pkt [] 0 1 false 0)) (linkIn .active)
    u.seqNum = 1 ∧ u.out = [] := by decide
/-- V98: the number wraps. -/
theorem test_rxData :
    let u := after (.rxData (pkt [] 7 0 true 14)) { linkIn .active with ackNum := 7 }
    u.ackNum = 0 ∧ u.out = [.tq (.tSend [0xC0, 0x00, 0x00, 0x00, 0x00, 0xC0]) .ok, .up (.data [])] := by decide
/-- V115, second step: the pending OPEN ends with Closed. -/
theorem test_seqAbort :
    let u := after .seqAbort { linkIn .uninitialized with openPending := true, exit := { ExitFlags.zero with close := true } }
    u.state = .closed ∧ u.openPending = false ∧ u.out = [.up (.status .closed .close), .hr .opn .closed] := by decide
/-- V110, second step. -/
theorem test_seqStart :
    let u := after .seqStart { linkIn .start with exit := { ExitFlags.zero with opened := true } }
    u.state = .reset ∧ u.tSm = ⟨true, 300⟩ ∧ u.exit.resetSent = true ∧ u.exit.opened = false
      ∧ u.out = [.up (.status .reset .opened), .tq (.tSend [0xC0, 0x00, 0x05, 0x00, 0xFB, 0xC0]) .ok] := by decide
/-- P1: after the settle time. -/
theorem test_seqReset :
    let u := after .seqReset { linkIn .reset with exit := { ExitFlags.zero with resetSent := true, resetWaitDone := true } }
    u.state = .uninitialized ∧ u.retryCnt = 5
      ∧ u.out = [.up (.status .uninitialized .resetDone), .tq (.tSend [0xC0, 0x00, 0x2F, 0x00, 0xD1, 0x01, 0x7E, 0xC0]) .ok] := by decide
/-- V81. -/
theorem test_seqUninitOk :
    let u := after .seqUninitOk { linkIn .uninitialized with exit := { ExitFlags.zero with peerResponded := true } }
    u.state = .initialized ∧ u.tSm = ⟨true, 250⟩
      ∧ u.out = [.up (.status .initialized .peerResponded), .tq (.tSend [0xC0, 0x00, 0x3F, 0x00, 0xC1, 0x03, 0xFC, 0x11, 0xC0]) .ok] := by decide
/-- P2: the end of the sixth wait. -/
theorem test_seqUninitNr :
    let u := after .seqUninitNr
      { linkIn .uninitialized with openPending := true, exit := { ExitFlags.zero with retryExhausted := true } }
    u.state = .noResponse ∧ u.out = [.up (.status .noResponse .retryExhausted), .hr .opn .noResponse] := by decide
/-- V83. -/
theorem test_seqInitOk :
    let u := after .seqInitOk
      { linkIn .initialized with openPending := true, exit := { ExitFlags.zero with peerResponded := true } }
    u.state = .active ∧ u.out = [.up (.status .active .peerResponded), .hr .opn .ok] := by decide
/-- P8: no second result when the OPEN has timed out. -/
theorem test_seqInitNr :
    (after .seqInitNr { linkIn .initialized with exit := { ExitFlags.zero with retryExhausted := true } }).out
      = [.up (.status .noResponse .retryExhausted)] := by decide
/-- P5. -/
theorem test_seqActive :
    let u := after .seqActive { sending with exit := { ExitFlags.zero with syncReceived := true } }
    u.state = .reset ∧ u.txBusy = true ∧ u.tTx = ⟨true, 250⟩
      ∧ u.out = [.up (.status .reset .peerResync), .tq (.tSend [0xC0, 0x00, 0x05, 0x00, 0xFB, 0xC0]) .ok] := by decide
/-- P9: the transport fails to close, the link is closed. -/
theorem test_closeDone :
    let u := after .closeDone { linkIn .failed with closePending := true, answers := [.err] }
    u.linkOpen = false ∧ u.out = [.tq .tClose .err, .hr .close .transportError] := by decide
/-- P7. -/
theorem test_txAbort :
    (after .txAbort { sending with exit := { ExitFlags.zero with close := true } }).out = [.hr .send .closed] := by decide
/-- R195 in RESET. -/
theorem test_tSmExpire :
    let u := after .tSmExpire { linkIn .reset with tSm := ⟨true, 0⟩ }
    u.exit.resetWaitDone = true ∧ u.tSm.armed = false := by decide
/-- P3: the second transmission. -/
theorem test_tTxExpire :
    let u := after .tTxExpire { sending with tTx := ⟨true, 0⟩ }
    u.txRetryCnt = 4 ∧ u.tTx = ⟨true, 250⟩ ∧ u.out = [.tq (.tSend [0xC0, 0x80, 0x1E, 0x00, 0x62, 0xAA, 0xC0]) .ok] := by decide
/-- V120. -/
theorem test_tOpenExpire :
    let u := after .tOpenExpire { linkIn .initialized with openPending := true, tOpen := ⟨true, 0⟩, tSm := ⟨true, 49⟩ }
    u.state = .initialized ∧ u.tSm = ⟨true, 49⟩ ∧ u.out = [.hr .opn .timeout] := by decide
/-- R44. -/
theorem test_tick :
    (after .tick sending).tTx = ⟨true, 249⟩ ∧ after .tick { sending with tOpen := ⟨true, 0⟩ } = { sending with tOpen := ⟨true, 0⟩ } := by decide
/-- R281, R282. -/
theorem test_hwReset :
    let u := after .hwReset { sending with hcWait := [[0x01]], flt := true, errCount := 7 }
    u.state = .closed ∧ u.linkOpen = false ∧ u.txBusy = false ∧ u.hcWait = [] ∧ u.flt = false ∧ u.errCount = 0
      ∧ u.out = [] := by decide
/-- R50: a faulted state is not final, and hardware reset leads out of it; a step that is enabled, or a timer that runs, is no end. -/
theorem test_final :
    let f := after (.pktEncode [] 0 0xFF false false 0) idle
    f.faulted = true ∧ f.final = false ∧ (after .hwReset f).final = true
      ∧ { linkIn .start with exit := { ExitFlags.zero with opened := true } }.final = false ∧ sending.final = false := by decide
/-- R202: the SYNC of one block arrives at the other. -/
theorem test_joined :
    let a := { linkIn .uninitialized with retryCnt := 1, tSm := ⟨true, 0⟩ }
    ((Joined.mk a (linkIn .initialized) 7).next 0).b.inbound = [0xC0, 0x00, 0x2F, 0x00, 0xD1, 0x01, 0x7E, 0xC0] := by decide
/-- The next message of the agenda is the operation of the next step; with parameters that break R293 there is none. -/
theorem test_step :
    (match step { idle with agenda := [⟨.hc, [2]⟩] } with
      | .next t => t.out == [.hr .close .invalidState] && t.agenda == []
      | .fault _ => false
      | .refused _ => false) = true
      ∧ (match step { idle with cfg := { cfg3 with esc := 0xC0 } } with
      | .next _ => false
      | .fault e => e == .invalidConfiguration
      | .refused _ => false) = true := by decide

/-! ### Witnesses: the hypotheses of each statement can be met, clause by clause -/

theorem witness_FrameCodecRoundTrip :
    framingOk Cfg.default = true
      ∧ decodeFrame Cfg.default [0xC0, 0x01, 0xDB, 0xDC, 0xDB, 0xDD, 0x02, 0xC0] = .ok [0x01, 0xC0, 0xDB, 0x02] := by decide

/-- The longest packet the bound speaks about. -/
theorem witness_FrameSizes :
    framingOk Cfg.default = true ∧ (List.replicate 4100 (0xC0 : Byte)).length = 4 + 4095 + Cfg.default.integrityLen := by
  rw [List.length_replicate]
  decide

theorem witness_FrameDecodeFailures :
    framingOk Cfg.default = true ∧ decodeFrame Cfg.default [0xC0, 0xDB, 0xC0] = .error .malformedFrame := by decide

theorem witness_PacketEncodeBytes :
    ((0 : BitVec 4) = 0 ∧ (0xFF : Byte) = 0xFF) ∧ ¬ ((14 : BitVec 4) = 0 ∧ (0xFF : Byte) = 0xFF)
      ∧ 4095 < (List.replicate 4096 (0 : Byte)).length ∧ (List.replicate 4095 (0 : Byte)).length ≤ 4095 := by
  simp only [List.length_replicate]
  decide

theorem witness_PktEncodePort :
    ((0 : BitVec 4) = 0 ∧ (0xFF : Byte) = 0xFF) ∧ ¬ ((0 : BitVec 4) = 0 ∧ (0xFE : Byte) = 0xFF)
      ∧ 4095 < (List.replicate 4096 (0 : Byte)).length ∧ (List.replicate 4095 (0 : Byte)).length ≤ 4095 := by
  simp only [List.length_replicate]
  decide

theorem witness_PacketCodecRoundTrip : (List.replicate 4095 (0 : Byte)).length ≤ 4095 := by
  simp only [List.length_replicate]
  decide

/-- Three bytes; a bad checksum; a length one too long; an accepted packet. -/
theorem witness_PacketDecodeChecks :
    ([0x80, 0x1E, 0x00] : Bytes).length < 4 ∧ (0x63 : Byte) ≠ hdrChecksum Cfg.default 0x80 0x1E 0x00
      ∧ (0x62 : Byte) = hdrChecksum Cfg.default 0x80 0x1E 0x00 ∧ ([0xAA, 0xBB] : Bytes).length ≠ 1 + 0
      ∧ ([0xAA] : Bytes).length = 1 + 0 ∧ (0x1E : Byte).toNat / 16 + 16 * (0x00 : Byte).toNat = 1
      ∧ (0x80 : Byte).toNat / 64 % 2 ≠ 1 := by decide

/-- V43: a trailer that is not the integrity value, and one that is. -/
theorem witness_PacketDecodeChecks_trailer :
    (0x1F : Byte) = hdrChecksum Cfg.default 0xC3 0x1E 0x00 ∧ (0xC3 : Byte).toNat / 64 % 2 = 1
      ∧ ∃ t : Byte, ([0x77, t] : Bytes).drop 1 = integrityFn Cfg.default [0xC3, 0x1E, 0x00, 0x1F, 0x77]
        ∧ ([0x77, t + 1] : Bytes).drop 1 ≠ integrityFn Cfg.default [0xC3, 0x1E, 0x00, 0x1F, 0x77] := by
  have h : integrityFn Cfg.default [0xC3, 0x1E, 0x00, 0x1F, 0x77]
      = [Config.integrityByte [0xC3, 0x1E, 0x00, 0x1F, 0x77] 0] := rfl
  rw [h]
  refine ⟨by decide, by decide, Config.integrityByte [0xC3, 0x1E, 0x00, 0x1F, 0x77] 0, rfl, ?_⟩
  generalize Config.integrityByte [0xC3, 0x1E, 0x00, 0x1F, 0x77] 0 = t
  revert t
  decide

theorem witness_PacketDecodeAcceptsOnlyEncodings :
    decodePkt Cfg.default [0x80, 0x1E, 0x00, 0x62, 0xAA] = .ok ⟨[0xAA], 0, 0, false, 1, 0x62, true, 14⟩ := by decide

theorem witness_PacketThroughFrame :
    framingOk Cfg.default = true ∧ encodePkt Cfg.default [0xAA] ((0 : BitVec 3).setWidth 8) ((0 : BitVec 3).setWidth 8) true false 14
      = .packet [0x80, 0x1E, 0x00, 0x62, 0xAA] := by decide

theorem witness_DefaultChecksumDetectsSumChanges : Cfg.default.hdrChecksum = .sumToZero := rfl

theorem witness_TemplatesDecodeToTheirKinds :
    cfgValid Cfg.default = true ∧ (List.replicate 4095 (0 : Byte)).length ≤ 4095 := by
  simp only [List.length_replicate]
  decide

theorem witness_DecodeOfEncode :
    cfgValid Cfg.default = true ∧ Instr.wf Cfg.default (.kSync (pkt [0x01, 0x7E] 7 7 true 15)) = true := by decide

theorem witness_EncodeOfDecode :
    cfgValid Cfg.default = true ∧ decode Cfg.default ⟨.txframe, [0xC0, 0x08, 0x00, 0x00, 0xF8, 0xC0]⟩ = .ok (.ackFrame 1) := by
  decide

/-- A message; no message; a retry budget just below its range. -/
theorem witness_StepRunsDecodedOperation :
    (cfgValid cfg3 = true ∧ { idle with agenda := [⟨.hc, [1]⟩] }.agenda = [⟨.hc, [1]⟩] ∧ decode cfg3 ⟨.hc, [1]⟩ = .ok .hostOpen)
      ∧ idle.agenda = [] ∧ cfgValid { cfg3 with retryBudget := 0 } = false := by decide

/-- A closed link; a chunk handed over; nothing to hand over; no delimiter seen; a full buffer; one place left. -/
theorem witness_RxByteLines :
    { idle with inbound := [0xC0, 0x01] }.inbound = 0xC0 :: [0x01] ∧ idle.linkOpen = false
      ∧ isTerminal (linkIn .closed).state = true
      ∧ ((linkIn .active).linkOpen = true ∧ isTerminal (linkIn .active).state = false ∧ (linkIn .active).rxSync = true)
      ∧ { linkIn .active with inbound := [0xC0], rxBuf := [0x01] }.rxBuf ≠ []
      ∧ { linkIn .active with inbound := [0xC0], rxOvf := true }.rxOvf = true
      ∧ ¬ ((linkIn .active).rxSync = true ∧ ((linkIn .active).rxBuf ≠ [] ∨ (linkIn .active).rxOvf = true))
      ∧ (0x01 : Byte) ≠ cfg3.delim ∧ { linkIn .active with rxSync := false }.rxSync = false
      ∧ { linkIn .active with cfg := { cfg3 with rxBufMax := 0 } }.rxBuf.length = 0
      ∧ (linkIn .active).rxBuf.length ≠ cfg3.rxBufMax := by decide

/-- A malformed chunk, a chunk with a bad packet, a good chunk. -/
theorem witness_RxFrameLines :
    (linkIn .active).linkOpen = true ∧ isTerminal (linkIn .active).state = false
      ∧ decodeFrame cfg3 [0xC0, 0xDB, 0xC0] = .error .malformedFrame
      ∧ decodeFrame cfg3 [0xC0, 0x00, 0x05, 0x00, 0xFA, 0xC0] = .ok [0x00, 0x05, 0x00, 0xFA]
      ∧ decodePkt cfg3 [0x00, 0x05, 0x00, 0xFA] = .error .headerChecksumMismatch
      ∧ decodeFrame cfg3 [0xC0, 0x00, 0x05, 0x00, 0xFB, 0xC0] = .ok [0x00, 0x05, 0x00, 0xFB]
      ∧ decodePkt cfg3 [0x00, 0x05, 0x00, 0xFB] = .ok ⟨[], 0, 0, false, 0, 0xFB, false, 5⟩ := by decide

/-- The rows of the kind table where they meet: a pattern with a byte more or less, any configuration byte, a reserved type. -/
theorem witness_RxFrameLines_kinds :
    cfgValid cfg3 = true
      ∧ kindInstr cfg3 (pkt [0x01, 0x7E] 0 0 false 15) = .kSync (pkt [0x01, 0x7E] 0 0 false 15)
      ∧ kindInstr cfg3 (pkt [0x01, 0x7E, 0x11] 0 0 false 15) = .kOther (pkt [0x01, 0x7E, 0x11] 0 0 false 15)
      ∧ kindInstr cfg3 (pkt [0x03, 0xFC, 0xFF] 0 0 true 15) = .kConfig (pkt [0x03, 0xFC, 0xFF] 0 0 true 15)
      ∧ kindInstr cfg3 (pkt [0x04, 0x7B] 0 0 false 15) = .kOther (pkt [0x04, 0x7B] 0 0 false 15)
      ∧ kindInstr cfg3 (pkt [0x01, 0x7E] 0 0 false 5) = .kReset (pkt [0x01, 0x7E] 0 0 false 5)
      ∧ kindInstr cfg3 (pkt [] 0 0 false 6) = .kOther (pkt [] 0 0 false 6) := by decide

/-- The buffer holds the beginning of another chunk, and is as small as the frame allows. -/
theorem witness_FrameCutAfterAnything :
    let s := { linkIn .active with
      cfg := { cfg3 with rxBufMax := 4 }, rxBuf := [0x11, 0x22], rxOvf := true,
      inbound := [0xC0, 0x00, 0x05, 0x00, 0xFB, 0xC0, 0x33] }
    framingOk s.cfg = true ∧ rxBufferOk s ∧ s.linkOpen = true ∧ isTerminal s.state = false
      ∧ ([0x00, 0x05, 0x00, 0xFB] : Bytes) ≠ [] ∧ (stuff s.cfg [0x00, 0x05, 0x00, 0xFB]).length = s.cfg.rxBufMax
      ∧ s.inbound = encodeFrame s.cfg [0x00, 0x05, 0x00, 0xFB] ++ [0x33] := by decide

theorem witness_TemplatesAreEmitted :
    (linkIn .active).linkOpen = true ∧ (List.replicate 4095 (0 : Byte)).length ≤ 4095
      ∧ (Instr.ackFrame 7 = .ackFrame 7 ∧ ackFrameOf cfg3 7 = [0xC0, 0x38, 0x00, 0x00, 0xC8, 0xC0]) := by
  simp only [List.length_replicate]
  decide

theorem witness_DispatchDrops :
    (linkIn .reset).state ≠ .uninitialized ∧ (linkIn .reset).state ≠ .initialized ∧ (linkIn .reset).state ≠ .active := by decide

theorem witness_HandshakePacketsAnswered :
    (linkIn .uninitialized).state = .uninitialized ∧ (linkIn .initialized).state = .initialized
      ∧ (linkIn .active).state = .active ∧ (linkIn .start).state = .start ∧ (linkIn .reset).state = .reset := by decide

theorem witness_ResponsesNoted :
    (Instr.rxSyncRsp = .rxSyncRsp ∧ (linkIn .uninitialized).state = .uninitialized)
      ∧ (Instr.rxConfigRsp = .rxConfigRsp ∧ (linkIn .initialized).state = .initialized)
      ∧ (linkIn .active).state ≠ .uninitialized ∧ (linkIn .active).state ≠ .initialized := by decide

/-- The number after the current one, with and without a SEND in flight, across the wrap; the current one; another. -/
theorem witness_AckHandled :
    (linkIn .active).state = .active ∧ kind cfg3 (pkt [] 0 0 false 0) = .ack
      ∧ ((0 : BitVec 3) = { sending with seqNum := 7 }.seqNum + 1 ∧ sending.txBusy = true)
      ∧ ((0 : BitVec 3) = { linkIn .active with seqNum := 7 }.seqNum + 1 ∧ (linkIn .active).txBusy = false)
      ∧ (0 : BitVec 3) = sending.seqNum ∧ ((2 : BitVec 3) ≠ sending.seqNum ∧ (2 : BitVec 3) ≠ sending.seqNum + 1) := by decide

theorem witness_DataHandled :
    (linkIn .active).state = .active ∧ kind cfg3 (pkt [] 7 0 true 14) = .data
      ∧ (pkt [] 7 0 true 14).seq = { linkIn .active with ackNum := 7 }.ackNum
      ∧ (pkt [] 7 0 true 14).seq ≠ (linkIn .active).ackNum := by decide

theorem witness_OpenAccepted : idle.linkOpen = false ∧ (linkIn .failed).linkOpen = true := by decide

theorem witness_CloseAccepted :
    (linkIn .active).linkOpen = true ∧ (linkIn .active).closePending = false ∧ idle.linkOpen = false
      ∧ { linkIn .active with closePending := true }.closePending = true := by decide

theorem witness_CloseCompleted :
    let s := { linkIn .closed with closePending := true }
    s.closePending = true ∧ isTerminal s.state = true ∧ s.txBusy = false := by decide

theorem witness_SendAccepted :
    sending.txBusy = true ∧ (linkIn .active).txBusy = false ∧ (linkIn .active).state = .active
      ∧ (linkIn .initialized).state ≠ .active ∧ 4095 < (List.replicate 4096 (0 : Byte)).length
      ∧ (List.replicate 4095 (0 : Byte)).length ≤ 4095 := by
  simp only [List.length_replicate]
  decide

theorem witness_SendStalls :
    sending.txBusy = true ∧ cfgValid cfg3 = true
      ∧ { sending with agenda := [⟨.hc, [0]⟩], hcWait := [[0x02]] }.agenda = [⟨.hc, [0]⟩]
      ∧ { linkIn .active with agenda := [⟨.hc, [0]⟩], hcWait := [[0x02]] }.hcWait = [[0x02]]
      ∧ (linkIn .active).txBusy = false := by decide

theorem witness_HandshakeStatesEntered :
    (ExitFlags.zero.ioError = false ∧ ExitFlags.zero.close = false)
      ∧ ((linkIn .start).state = .start ∧ { ExitFlags.zero with opened := true }.opened = true)
      ∧ ((linkIn .reset).state = .reset ∧ { ExitFlags.zero with resetSent := true, resetWaitDone := true }.resetSent = true)
      ∧ ((linkIn .uninitialized).state = .uninitialized ∧ { ExitFlags.zero with peerResponded := true }.peerResponded = true) := by
  decide

theorem witness_ActiveEntered :
    let s := { linkIn .initialized with openPending := true, exit := { ExitFlags.zero with peerResponded := true } }
    s.exit.ioError = false ∧ s.exit.close = false ∧ s.state = .initialized ∧ s.exit.peerResponded = true := by decide

/-- The four ways in: two exhausted budgets, an I/O error (before a close), a close. -/
theorem witness_TerminalEntered :
    (∀ st ∈ [ConnState.uninitialized, .initialized],
        let s := { linkIn st with exit := { ExitFlags.zero with retryExhausted := true } }
        s.exit.ioError = false ∧ s.exit.close = false ∧ s.exit.peerResponded = false ∧ s.exit.retryExhausted = true)
      ∧ (let s := { linkIn .active with exit := { ExitFlags.zero with ioError := true, close := true } }
        s.linkOpen = true ∧ isTerminal s.state = false ∧ s.exit.ioError = true)
      ∧ (let s := { linkIn .start with exit := { ExitFlags.zero with close := true } }
        s.linkOpen = true ∧ isTerminal s.state = false ∧ s.exit.ioError = false ∧ s.exit.close = true) := by decide

theorem witness_ReestablishmentEntered :
    (linkIn .active).state = .active ∧ (linkIn .active).exit.ioError = false ∧ (linkIn .active).exit.close = false
      ∧ { ExitFlags.zero with syncReceived := true, syncError := true }.syncReceived = true
      ∧ { ExitFlags.zero with syncError := true }.syncError = true := by decide

/-- Each guard missing in one of its parts. -/
theorem witness_DisabledStepsDoNothing :
    let io := fun s : State => s.exit.ioError = true ∨ s.exit.close = true
    let due := fun t : Timer => t.armed = true ∧ t.rem = 0
    idle.inbound = [] ∧ idle.linkOpen = false ∧ isTerminal idle.state = true ∧ ¬ io (linkIn .active)
      ∧ io { linkIn .initialized with exit := { ExitFlags.zero with close := true, peerResponded := true } }
      ∧ (linkIn .start).exit.opened = false ∧ (linkIn .active).exit.syncReceived = false
      ∧ { linkIn .closed with closePending := true, txBusy := true }.txBusy = true
      ∧ kind cfg3 (pkt [] 0 0 true 14) ≠ .ack ∧ kind cfg3 (pkt [] 0 0 false 14) ≠ .data
      ∧ ¬ due ⟨true, 1⟩ ∧ ¬ due ⟨false, 0⟩ ∧ due ⟨true, 0⟩ := by decide

/-- RESET; another state; a handshake state that has been answered, one with the budget spent, one with one transmission left. -/
theorem witness_SequencerTimerExpires :
    let e := fun st : ConnState => { linkIn st with tSm := ⟨true, 0⟩ }
    ((e .reset).tSm.armed = true ∧ (e .reset).tSm.rem = 0 ∧ (e .reset).state = .reset)
      ∧ ((e .active).state ≠ .reset ∧ (e .active).state ≠ .uninitialized ∧ (e .active).state ≠ .initialized)
      ∧ (e .uninitialized).state = .uninitialized ∧ (e .initialized).state = .initialized
      ∧ { ExitFlags.zero with peerResponded := true }.peerResponded = true ∧ (e .initialized).exit.peerResponded = false
      ∧ (e .initialized).retryCnt = 0 ∧ { e .initialized with retryCnt := 1 }.retryCnt ≠ 0 := by decide

theorem witness_RetransmissionTimerExpires :
    let s := { sending with tTx := ⟨true, 0⟩, txRetryCnt := 1 }
    s.tTx.armed = true ∧ s.tTx.rem = 0 ∧ s.txBusy = true ∧ s.exit.ioError = false ∧ s.exit.close = false ∧ s.txRetryCnt ≠ 0
      ∧ { s with txRetryCnt := 0 }.txRetryCnt = 0 ∧ { s with txBusy := false }.txBusy = false := by decide

theorem witness_SendAborted :
    sending.txBusy = true ∧ { ExitFlags.zero with ioError := true }.ioError = true
      ∧ { ExitFlags.zero with close := true }.close = true := by decide

theorem witness_OpenTimerExpires :
    { linkIn .initialized with tOpen := ⟨true, 0⟩ }.tOpen.armed = true
      ∧ { linkIn .initialized with tOpen := ⟨true, 0⟩ }.tOpen.rem = 0 := by decide

/-- One tick left on a timer, and a timer at 0 that is not armed. -/
theorem witness_TickCountsDown :
    let due := fun t : Timer => t.armed = true ∧ t.rem = 0
    ¬ due ⟨true, 1⟩ ∧ ¬ due ⟨false, 0⟩ := by decide

/-- The state after reset meets the invariant: what the statements with a premise `Inv s` rest on, with a link that is closed. -/
theorem witness_Inv : Inv State.reset ∧ State.reset.linkOpen = false := by
  refine ⟨⟨by decide, by decide, by decide, by decide, by decide, by decide, by decide, ?_⟩, rfl⟩
  intro h
  cases h

/-- The invariant with a SEND in flight on an open link. -/
theorem witness_Inv_sending : Inv sending := by
  refine ⟨by decide, by decide, by decide, by decide, by decide, by decide, by decide, fun _ => ⟨[0xAA], 0, 0, ?_, rfl⟩⟩
  decide

theorem witness_StepKeepsInvariant : Inv State.reset ∧ step State.reset = .next State.reset :=
  ⟨witness_Inv.1, rfl⟩

/-- A state that meets the invariant, and an operation that moves `state` from it. -/
theorem witness_TransitionGraph :
    Inv State.reset ∧ Instr.hostOpen ≠ .hwReset ∧ exec .hostOpen State.reset = .next (after .hostOpen State.reset)
      ∧ (after .hostOpen State.reset).state = .start :=
  ⟨witness_Inv.1, by decide, rfl, rfl⟩

theorem witness_SendFrameUnchanged :
    let s := { sending with tTx := ⟨true, 0⟩ }
    exec .tTxExpire s = .next (after .tTxExpire s) ∧ s.txBusy = true ∧ (after .tTxExpire s).txBusy = true := by
  refine ⟨rfl, ?_⟩
  decide

theorem witness_CountersOnlyAdvance :
    isStep .rxByte = true ∧ (let s := { linkIn .active with rxBuf := [0x11], inbound := [0xC0] }
      exec .rxByte s = .next (after .rxByte s) ∧ (after .rxByte s).errCount = s.errCount + 1) :=
  ⟨rfl, rfl, by decide⟩

/-- A final state; the same state with the bit set; an operation that sets the bit, one that keeps it, and hardware reset. -/
theorem witness_FaultBitSticky :
    exec (.pktEncode [] 0 0xFF false false 0) idle = .next { idle with flt := true } ∧ notFaulted idle
      ∧ cfgValid idle.cfg = true ∧ idle.final = true ∧ { idle with flt := true }.atRest = true
      ∧ exec .tick { idle with flt := true } = .next { idle with flt := true }
      ∧ exec .hwReset idle = .next (after .hwReset idle) := by
  refine ⟨rfl, rfl, ?_, ?_, ?_, rfl, rfl⟩ <;> decide

theorem witness_ParametersConstant : exec .hostClose idle = .next (after .hostClose idle) := rfl

theorem witness_OneResultPerOpen :
    Inv State.reset ∧ Instr.hostOpen ≠ .hwReset ∧ exec .hostClose State.reset = .next (after .hostClose State.reset) :=
  ⟨witness_Inv.1, by decide, rfl⟩

theorem witness_OneResultPerSend : Inv sending ∧ exec (.hostSend []) sending = .next { sending with hcWait := [[]] } :=
  ⟨witness_Inv_sending, rfl⟩

theorem witness_NoRequestWhileClosed :
    Inv State.reset ∧ State.reset.linkOpen = false ∧ exec .hostClose State.reset = .next (after .hostClose State.reset) :=
  ⟨witness_Inv.1, rfl, rfl⟩

theorem witness_ClosedIsQuiescent :
    Inv State.reset ∧ State.reset.linkOpen = false ∧ isStep .tick = true ∧ exec .tick State.reset = .next State.reset :=
  ⟨witness_Inv.1, rfl, rfl, rfl⟩

/-- Both states, with an OPEN pending and a SEND in flight whose timers run out exactly with the waits. -/
theorem witness_HandshakeAttempts :
    ∀ st ∈ [ConnState.uninitialized, .initialized],
      let s := { linkIn st with
        retryCnt := 5, tSm := ⟨true, 250⟩, answers := List.replicate 5 .ok
        openPending := true, tOpen := ⟨true, 1500⟩, txBusy := true, tTx := ⟨true, 1500⟩ }
      cfgValid s.cfg = true ∧ s.exit = ExitFlags.zero ∧ s.retryCnt.toNat = s.cfg.retryBudget - 1
        ∧ s.tSm = ⟨true, BitVec.ofNat 16 (ticks s.cfg s.cfg.retxInterval)⟩ ∧ s.tTx.armed = true ∧ s.tOpen.armed = true
        ∧ s.cfg.retryBudget * ticks s.cfg s.cfg.retxInterval = s.tTx.rem.toNat
        ∧ s.cfg.retryBudget * ticks s.cfg s.cfg.retxInterval = s.tOpen.rem.toNat
        ∧ s.answers = List.replicate (s.cfg.retryBudget - 1) .ok := by decide

/-- A SEND in flight while the sequencer's timer runs. -/
theorem witness_SendAttempts :
    let s := { sending with
      state := .initialized, tSm := ⟨true, 1500⟩, tOpen := ⟨true, 1500⟩, answers := List.replicate 5 .ok }
    cfgValid s.cfg = true ∧ s.txBusy = true ∧ s.exit.ioError = false ∧ s.exit.close = false
      ∧ s.txRetryCnt.toNat = s.cfg.retryBudget - 1 ∧ s.tTx = ⟨true, BitVec.ofNat 16 (ticks s.cfg s.cfg.retxInterval)⟩
      ∧ s.tSm.armed = true ∧ s.cfg.retryBudget * ticks s.cfg s.cfg.retxInterval = s.tSm.rem.toNat
      ∧ s.tOpen.armed = true ∧ s.cfg.retryBudget * ticks s.cfg s.cfg.retxInterval = s.tOpen.rem.toNat
      ∧ s.answers = List.replicate (s.cfg.retryBudget - 1) .ok := by decide

/-- A re-establishment that keeps the SEND in flight (R229), and an acknowledgement that ends it. -/
theorem witness_SendAttempts_kept :
    let s := { sending with exit := { ExitFlags.zero with syncReceived := true } }
    s.txBusy = true ∧ exec .seqActive s = .next (after .seqActive s) ∧ (after .seqActive s).state = .reset
      ∧ (after .seqActive s).txBusy = true ∧ (after (.rxAck (pkt [] 0 1 false 0)) sending).txBusy = false := by
  refine ⟨rfl, rfl, ?_⟩
  decide

/-- Two closed blocks, with the largest skew and none. -/
theorem witness_ExchangeDeliversOnce_open :
    Inv State.reset ∧ State.reset.linkOpen = false ∧ cfgValid State.reset.cfg = true
      ∧ maxBody State.reset.cfg = State.reset.cfg.rxBufMax ∧ 2 ≤ State.reset.cfg.retryBudget
      ∧ 1250 = (State.reset.cfg.retryBudget - 1) * ticks State.reset.cfg State.reset.cfg.retxInterval
      ∧ 0 ≤ (State.reset.cfg.retryBudget - 1) * ticks State.reset.cfg State.reset.cfg.retxInterval := by
  refine ⟨witness_Inv.1, ?_⟩
  decide

/-- Two blocks at the wrap of the number; RX_BUF_MAX stands at the least value that lets every frame in. -/
theorem witness_ExchangeDeliversOnce :
    let a := { linkIn .active with seqNum := 7 }
    let b := { linkIn .active with ackNum := 7 }
    cfgValid a.cfg = true ∧ b.cfg = a.cfg ∧ maxBody a.cfg ≤ a.cfg.rxBufMax ∧ a.state = .active ∧ b.state = .active
      ∧ a.linkOpen = true ∧ b.linkOpen = true ∧ a.inbound = [] ∧ b.inbound = [] ∧ a.rxBuf = [] ∧ a.rxOvf = false
      ∧ b.rxBuf = [] ∧ b.rxOvf = false ∧ a.txBusy = false ∧ a.seqNum = b.ackNum ∧ ([] : Bytes).length ≤ 4095 := by decide

end Sys2Proof.Tests
end

namespace Sys2Proof.Machine

open Safety

/-- R68: `emit` issues one `T_SEND`, whatever the transport may answer, and raises `x_io_error` on ERR. -/
theorem State.emit_answered (f : Bytes) (s : State) : ∃ a n, mayAnswer s a ∧
    s.emit f = { s with
      out := s.out ++ [.tq (.tSend f) a], answers := s.answers.tail, freeCount := n,
      exit := { s.exit with ioError := s.exit.ioError || a == .err } } :=
  ⟨s.nextAnswer, s.countAfterRequest, s.nextAnswer_of_head, s.emit_eq f⟩

theorem State.emitIfOpen_of_linkOpen {s : State} (f : Bytes) (hopen : s.linkOpen = true) : s.emitIfOpen f = s.emit f :=
  if_pos hopen

/-- A payload that has a packet (R151) is sent as the template's frame. -/
theorem execDataFrame_of_length_le {p : Bytes} (sq a : BitVec 3) (s : State) (hp : p.length ≤ Config.maxPayload) :
    execDataFrame p sq a s = .next (s.emitIfOpen (dataFrameOf s.cfg p sq a)) :=
  congrArg Host.Outcome.next (if_pos hp)

end Sys2Proof.Machine

namespace Sys2Proof.Safety

open Machine

/-- Settles O22: each template is the guarded `emit` of its frame, and with the link open that guard passes. -/
theorem templatesAreEmitted : Obligations.TemplatesAreEmitted := by
  intro s i f hopen htemplate
  have hexec : exec i s = .next (s.emitIfOpen f) := by
    rcases htemplate with ⟨rfl, rfl⟩ | ⟨rfl, rfl⟩ | ⟨rfl, rfl⟩ | ⟨rfl, rfl⟩ | ⟨rfl, rfl⟩ | ⟨a, rfl, rfl⟩
      | ⟨p, sq, a, hp, rfl, rfl⟩
    exacts [rfl, rfl, rfl, rfl, rfl, rfl, execDataFrame_of_length_le sq a s hp]
  obtain ⟨a, n, hanswer, hemit⟩ := s.emit_answered f
  refine ⟨a, n, hanswer, ?_⟩
  rw [hexec, State.emitIfOpen_of_linkOpen f hopen, hemit]

end Sys2Proof.Safety

namespace Sys2Proof.Machine

open Safety

/-! ### The frame codec inverts itself (R134) -/

theorem decodeFrame_delimited (c : Cfg) (body : Bytes) :
    decodeFrame c ([c.delim] ++ body ++ [c.delim]) = unstuff c body := by
  simp [decodeFrame, List.getLast?_cons]

/-- FRAME.DECODE looks inside a frame only where delimiters enclose it (R133). -/
theorem delimited_of_decodeFrame_ok {c : Cfg} {f p : Bytes} (h : decodeFrame c f = .ok p) :
    ∃ body, f = [c.delim] ++ body ++ [c.delim] ∧ unstuff c body = .ok p := by
  unfold decodeFrame at h
  split at h
  · cases h
  · next hends =>
    simp only [not_or, not_lt, not_not] at hends
    obtain ⟨hlen, hfirst, hlast⟩ := hends
    refine ⟨(f.drop 1).dropLast, ?_, h⟩
    match f with
    | x :: y :: f' =>
      obtain rfl : x = c.delim := by simpa using hfirst
      rw [List.getLast?_cons_cons] at hlast
      simp [List.dropLast_append_getLast? _ hlast]

theorem decodeFrame_encodeFrame {c : Cfg} (hc : framingOk c = true) (p : Bytes) : decodeFrame c (encodeFrame c p) = .ok p :=
  (decodeFrame_delimited c _).trans (unstuff_stuff hc p)

theorem encodeFrame_of_decodeFrame_ok {c : Cfg} {f p : Bytes} (hc : framingOk c = true) (h : decodeFrame c f = .ok p) :
    encodeFrame c p = f := by
  obtain ⟨body, rfl, hbody⟩ := delimited_of_decodeFrame_ok h
  rcases unstuff_cases hc body with ⟨q, hq, rfl⟩ | ⟨herror, -⟩
  · obtain rfl : q = p := by simpa [hq] using hbody
    rfl
  · simp [herror] at hbody

/-! ### Sizes of frames (R135) -/

theorem stuffByte_length (c : Cfg) (b : Byte) :
    (stuffByte c b).length = 1 + if b == c.delim || b == c.esc then 1 else 0 := by
  unfold stuffByte
  split
  · next hd => simp [hd]
  · next hd =>
    split
    · next he => simp [he]
    · next he => simp [hd, he]

theorem stuff_length (c : Cfg) (p : Bytes) :
    (stuff c p).length = p.length + p.countP (fun b => b == c.delim || b == c.esc) := by
  induction p with
  | nil => rfl
  | cons b p ih =>
    rw [stuff_cons, List.length_append, stuffByte_length, ih, List.countP_cons, List.length_cons]
    omega

theorem encodeFrame_length (c : Cfg) (p : Bytes) : (encodeFrame c p).length = (stuff c p).length + 2 := by
  simp [encodeFrame]

theorem stuff_ne_nil (c : Cfg) {p : Bytes} (hp : p ≠ []) : stuff c p ≠ [] := by
  obtain ⟨b, q, rfl⟩ := List.exists_cons_of_ne_nil hp
  simp [stuffByte_ne_nil]

/-! ### RX.BYTE by the lines of R138 -/

theorem State.receiving_iff (s : State) : s.receiving = true ↔ s.linkOpen = true ∧ isTerminal s.state = false := by
  simp [State.receiving]

theorem State.chunkReady_iff (s : State) :
    s.chunkReady = true ↔ s.rxSync = true ∧ (s.rxBuf ≠ [] ∨ s.rxOvf = true) := by
  simp [State.chunkReady]

/-- Line 1: a byte that arrives where the receive path is off forgets the partial chunk. -/
theorem State.consume_off {s : State} (b : Byte) (hr : s.receiving = false) : s.consume b = s.clearRx := by
  simp [State.consume, hr]

/-- Line 2: a delimiter that closes a chunk hands it to RX.FRAME, out of an emptied buffer. -/
theorem State.consume_handover {s : State} (hr : s.receiving = true) (hq : s.chunkReady = true) :
    s.consume s.cfg.delim = { { s with rxBuf := [], rxOvf := false }.rxFrame s.chunk s.rxOvf with rxSync := true } := by
  simp [State.consume, hr, State.rxDelim, hq]

/-- Line 3: before the first delimiter a byte is discarded. -/
theorem State.consume_unsynchronised {s : State} {b : Byte} (hr : s.receiving = true) (hb : b ≠ s.cfg.delim)
    (hs : s.rxSync = false) : s.consume b = s := by
  simp [State.consume, hr, hb, State.rxChunkByte, hs]

/-- Line 3: a byte that finds the buffer full is discarded and remembered. -/
theorem State.consume_full {s : State} {b : Byte} (hr : s.receiving = true) (hb : b ≠ s.cfg.delim)
    (hs : s.rxSync = true) (hl : s.rxBuf.length = s.cfg.rxBufMax) : s.consume b = { s with rxOvf := true } := by
  simp [State.consume, hr, hb, State.rxChunkByte, hs, hl]

/-- RX.BYTE takes the first byte of the inbound stream and consumes it. -/
theorem exec_rxByte_of_consume {s t : State} {b : Byte} {rest : Bytes} (hi : s.inbound = b :: rest)
    (h : { s with inbound := rest }.consume b = t) : exec .rxByte s = .next t := by
  simp only [exec, execRxByte, hi, h]

theorem exec_rxFrame_of_receiving {s : State} (chunk : Bytes) (ovf : Bool) (hr : s.receiving = true) :
    exec (.rxFrame chunk ovf) s = .next (s.rxFrame chunk ovf) := by
  simp only [exec, execRxFrame, hr, State.guarded_true]

/-! ### Runs of RX.BYTE over a frame (R141) -/

theorem runAll_cons_of_next {i : Instr} {s t : State} (h : exec i s = .next t) (is : List Instr) :
    runAll (i :: is) s = runAll is t := by
  simp only [runAll, h]

/-- Whatever the buffer held, a delimiter leaves the reassembler synchronised on an empty chunk (R137). -/
theorem State.consume_delim_empties {s : State} (hr : s.receiving = true) (hbuf : rxBufferOk s) :
    (s.consume s.cfg.delim).rxSync = true ∧ (s.consume s.cfg.delim).rxBuf = [] ∧ (s.consume s.cfg.delim).rxOvf = false := by
  obtain ⟨-, -, hunsynced, -⟩ := hbuf
  cases hq : s.chunkReady
  · rw [State.consume_opening hr hq]
    cases hs : s.rxSync
    · exact ⟨rfl, hunsynced hs⟩
    · simpa [State.chunkReady, hs] using hq
  · rw [State.consume_handover hr hq]
    simp

/-- RX.BYTE for each byte of a chunk that fits collects them all in the buffer (R138 line 3). -/
theorem runAll_rxByte_body (body rest : Bytes) (is : List Instr) (s : State) (hr : s.receiving = true) (hs : s.rxSync = true)
    (hd : s.cfg.delim ∉ body) (hl : s.rxBuf.length + body.length ≤ s.cfg.rxBufMax) (hi : s.inbound = body ++ rest) :
    runAll (List.replicate body.length .rxByte ++ is) s
      = runAll is { s with inbound := rest, rxBuf := s.rxBuf ++ body } := by
  induction body generalizing s with
  | nil =>
    have hkept : { s with inbound := rest, rxBuf := s.rxBuf ++ [] } = s := by
      cases s; simp_all
    rw [hkept]; rfl
  | cons b body ih =>
    obtain ⟨hb, hd⟩ := not_or.mp (List.mem_cons.not.mp hd)
    rw [List.length_cons] at hl
    have hroom : s.rxBuf.length ≠ s.cfg.rxBufMax := by omega
    have hbyte : exec .rxByte s = .next { s with inbound := body ++ rest, rxBuf := s.rxBuf ++ [b] } :=
      exec_rxByte_of_consume hi (State.consume_byte hr hs (Ne.symm hb) hroom)
    rw [List.length_cons, List.replicate_succ, List.cons_append, runAll_cons_of_next hbyte,
      ih { s with inbound := body ++ rest, rxBuf := s.rxBuf ++ [b] } hr hs hd (by simp; omega) rfl]
    simp

/-- RX.BYTE for the body and the closing delimiter of a frame, once its opening delimiter has emptied the buffer, is RX.FRAME of
the whole frame. -/
theorem runAll_rxByte_after_opening {s : State} {k rest : Bytes} (hc : framingOk s.cfg = true) (hr : s.receiving = true)
    (hs : s.rxSync = true) (hb : s.rxBuf = []) (ho : s.rxOvf = false) (hk : k ≠ [])
    (hl : (stuff s.cfg k).length ≤ s.cfg.rxBufMax) (hi : s.inbound = stuff s.cfg k ++ s.cfg.delim :: rest) :
    runAll (List.replicate (stuff s.cfg k).length .rxByte ++ [.rxByte]) s
      = some ({ s with inbound := rest }.rxFrame (encodeFrame s.cfg k) false) := by
  have hclose : exec .rxByte { s with inbound := s.cfg.delim :: rest, rxBuf := stuff s.cfg k }
      = .next ({ s with inbound := rest, rxBuf := [] }.rxFrame (encodeFrame s.cfg k) false) :=
    exec_rxByte_of_consume rfl
      (State.consume_closing (s := { s with inbound := rest, rxBuf := stuff s.cfg k }) hr hs ho (stuff_ne_nil _ hk))
  rw [runAll_rxByte_body _ _ _ s hr hs (delim_not_mem_stuff hc k) (by simpa [hb] using hl) hi, hb, List.nil_append]
  exact runAll_cons_of_next hclose []

end Sys2Proof.Machine

namespace Sys2Proof.Safety

open Machine

/-- Settles O1: `unstuff` inverts `stuff`, and FRAME.DECODE accepts nothing but what FRAME.ENCODE writes. -/
theorem frameCodecRoundTrip : Obligations.FrameCodecRoundTrip :=
  fun _ p _ hc => ⟨decodeFrame_encodeFrame hc p, encodeFrame_of_decodeFrame_ok hc⟩

/-- Settles O2: a token has two bytes where the payload byte is escaped and one elsewhere, and no token holds a delimiter. -/
theorem frameSizes : Obligations.FrameSizes := by
  intro c p hc
  have hlen := encodeFrame_length c p
  rw [stuff_length] at hlen
  have hescaped : p.countP (fun b => b == c.delim || b == c.esc) ≤ p.length := List.countP_le_length
  refine ⟨by omega, by omega, by omega, fun _ => by omega, stuff c p, rfl, delim_not_mem_stuff hc p⟩

/-- Settles O21: the opening delimiter empties the buffer whatever it held, and from there the frame is collected and handed over. -/
theorem frameCutAfterAnything : Obligations.FrameCutAfterAnything := by
  intro s k rest hc hbuf hopen hstate hk hl hi
  have hr : s.receiving = true := s.receiving_iff.2 ⟨hopen, hstate⟩
  have hsplit : s.inbound = s.cfg.delim :: (stuff s.cfg k ++ s.cfg.delim :: rest) := by simp [hi, encodeFrame]
  have hfirst := exec_rxByte_of_consume hsplit rfl
  obtain ⟨hs, hb, ho⟩ := State.consume_delim_empties (s := { s with inbound := stuff s.cfg k ++ s.cfg.delim :: rest }) hr hbuf
  set s1 := State.consume s.cfg.delim { s with inbound := stuff s.cfg k ++ s.cfg.delim :: rest } with hs1
  have hcfg : s1.cfg = s.cfg := by simp [hs1]
  have hr1 : s1.receiving = true := (State.receiving_congr (by simp [hs1]) (by simp [hs1])).trans hr
  have hi1 : s1.inbound = stuff s.cfg k ++ s.cfg.delim :: rest := by simp [hs1]
  rw [← hcfg] at hc hl hi1 ⊢
  refine ⟨s1, _, hfirst, hb, ho, exec_rxFrame_of_receiving _ _ hr1, ?_⟩
  rw [encodeFrame_length, List.replicate_succ, List.replicate_succ', runAll_cons_of_next hfirst]
  exact runAll_rxByte_after_opening hc hr1 hs hb ho hk hl hi1

/-- Settles O18: T_DATA is an append to the inbound stream, and appends associate. -/
theorem tDataAppends : Obligations.TDataAppends := by
  intro s a b
  have hdata : ∀ (bs : Bytes) (u : State), exec (.tData bs) u = .next { u with inbound := u.inbound ++ bs } := fun _ _ => rfl
  refine ⟨hdata a s, ?_⟩
  rw [runAll_cons_of_next (hdata a s), runAll_cons_of_next (hdata b _), runAll_cons_of_next (hdata (a ++ b) s),
    List.append_assoc]

/-- Settles O19: RX.BYTE takes the first byte and consumes it by the line of R138 that applies. -/
theorem rxByteLines : Obligations.RxByteLines := by
  intro s b rest hi
  refine ⟨fun hoff => ?_, fun hopen hstate => ?_⟩
  · have hr : s.receiving = false := by
      rcases hoff with h | h <;> simp [State.receiving, h]
    exact exec_rxByte_of_consume hi (State.consume_off b hr)
  · have hr : s.receiving = true := s.receiving_iff.2 ⟨hopen, hstate⟩
    refine ⟨?_, ?_, ?_, ?_, ?_⟩
    · rintro rfl hs hchunk
      exact ⟨_, exec_rxFrame_of_receiving _ _ hr,
        exec_rxByte_of_consume hi (State.consume_handover hr (s.chunkReady_iff.2 ⟨hs, hchunk⟩))⟩
    · rintro rfl hnothing
      have hq : s.chunkReady = false := Bool.eq_false_iff.2 (mt s.chunkReady_iff.1 hnothing)
      exact exec_rxByte_of_consume hi (State.consume_opening hr hq)
    · exact fun hb hs => exec_rxByte_of_consume hi (State.consume_unsynchronised hr hb hs)
    · exact fun hb hs hl => exec_rxByte_of_consume hi (State.consume_full hr hb hs hl)
    · exact fun hb hs hl => exec_rxByte_of_consume hi (State.consume_byte hr hs hb hl)

end Sys2Proof.Safety

namespace Sys2Proof.Machine

open Safety

/-! ### What PKT.ENCODE answers (R150, R151) -/

theorem encodePkt_ackWithoutNumber {type : BitVec 4} {ack : Byte} (h : type = 0 ∧ ack = 0xFF) (c : Cfg) (p : Bytes) (seq : Byte)
    (reliable integrity : Bool) : encodePkt c p seq ack reliable integrity type = .ackWithoutNumber :=
  if_pos h

theorem encodePkt_invalidLength {type : BitVec 4} {ack : Byte} (h : ¬ (type = 0 ∧ ack = 0xFF)) {p : Bytes} (hp : 4095 < p.length)
    (c : Cfg) (seq : Byte) (reliable integrity : Bool) : encodePkt c p seq ack reliable integrity type = .invalidLength :=
  (if_neg h).trans (if_pos hp)

theorem encodePkt_packet {type : BitVec 4} {ack : Byte} (h : ¬ (type = 0 ∧ ack = 0xFF)) {p : Bytes} (hp : p.length ≤ 4095)
    (c : Cfg) (seq : Byte) (reliable integrity : Bool) :
    encodePkt c p seq ack reliable integrity type
      = .packet (buildPacket c p (seq.setWidth 3) (ack.setWidth 3) reliable integrity type) :=
  (if_neg h).trans (if_neg (not_lt.2 hp))

/-- No 3-bit number widens to the `ack = 0xFF` that stands for "no number" (R151). -/
theorem setWidth_ne_noNumber (n : BitVec 3) : n.setWidth 8 ≠ (0xFF : Byte) := by
  revert n; decide

/-- On numbers of 3 bits the length is the one check left, and the numbers go into the packet unreduced. -/
theorem encodePkt_setWidth {p : Bytes} (hp : p.length ≤ 4095) (c : Cfg) (seq ack : BitVec 3) (reliable integrity : Bool)
    (type : BitVec 4) :
    encodePkt c p (seq.setWidth 8) (ack.setWidth 8) reliable integrity type
      = .packet (buildPacket c p seq ack reliable integrity type) := by
  have hack : ¬ (type = 0 ∧ ack.setWidth 8 = (0xFF : Byte)) := fun h => setWidth_ne_noNumber ack h.2
  rw [encodePkt_packet hack hp, BitVec.setWidth_setWidth_of_le seq (by decide), BitVec.setWidth_setWidth_of_le ack (by decide),
    BitVec.setWidth_eq, BitVec.setWidth_eq]

/-- Only a payload that fits has a packet (R151). -/
theorem length_le_of_encodePkt_packet {c : Cfg} {p k : Bytes} {seq ack : Byte} {reliable integrity : Bool} {type : BitVec 4}
    (h : encodePkt c p seq ack reliable integrity type = .packet k) : p.length ≤ 4095 := by
  by_cases hack : type = 0 ∧ ack = 0xFF
  · simp [encodePkt_ackWithoutNumber hack] at h
  · by_contra hp
    simp [encodePkt_invalidLength hack (not_le.1 hp)] at h

/-! ### The bytes of a packet (R150) -/

/-- The header, the payload, and the integrity bytes of both when asked. -/
theorem buildPacket_eq (c : Cfg) (p : Bytes) (seq ack : BitVec 3) (reliable integrity : Bool) (type : BitVec 4) :
    buildPacket c p seq ack reliable integrity type
      = header c seq ack integrity reliable type (BitVec.ofNat 12 p.length) ++ p
        ++ (if integrity then integrityFn c (header c seq ack integrity reliable type (BitVec.ofNat 12 p.length) ++ p) else []) := by
  cases integrity <;> simp [buildPacket]

theorem buildPacket_length (c : Cfg) (p : Bytes) (seq ack : BitVec 3) (reliable integrity : Bool) (type : BitVec 4) :
    (buildPacket c p seq ack reliable integrity type).length = 4 + p.length + (if integrity then c.integrityLen else 0) := by
  rw [buildPacket_eq]
  cases integrity <;> simp [header] <;> omega

theorem toNat_ofNat_length {p : Bytes} (hp : p.length ≤ 4095) : (BitVec.ofNat 12 p.length).toNat = p.length := by
  rw [BitVec.toNat_ofNat, Nat.mod_eq_of_lt (by omega)]

/-! ### The fields of a header by arithmetic (R94 to R99, R152) -/

theorem toNat_eq_count (b : Bool) : b.toNat = count b := by
  cases b <;> rfl

theorem count_getLsbD {w : Nat} (b : BitVec w) (i : Nat) : count (b.getLsbD i) = b.toNat / 2 ^ i % 2 := by
  rw [← toNat_eq_count, BitVec.getLsbD, Nat.toNat_testBit]

theorem getLsbD_six_iff (b0 : Byte) : b0.getLsbD 6 = true ↔ b0.toNat / 64 % 2 = 1 := by
  have hcount : count (b0.getLsbD 6) = b0.toNat / 64 % 2 := count_getLsbD b0 6
  rw [← hcount]
  cases b0.getLsbD 6 <;> simp [count]

theorem trailerLength_eq (c : Cfg) (b0 : Byte) :
    trailerLength c b0 = if b0.toNat / 64 % 2 = 1 then c.integrityLen else 0 := by
  simp only [trailerLength, getLsbD_six_iff]

/-- The record's fields read from the header bytes by division (R152). -/
theorem packetOf_fields (b0 b1 b2 b3 : Byte) (payload : Bytes) :
    (packetOf b0 b1 b2 b3 payload).seq.toNat = b0.toNat % 8
      ∧ (packetOf b0 b1 b2 b3 payload).ack.toNat = b0.toNat / 8 % 8
      ∧ count (packetOf b0 b1 b2 b3 payload).integrityChecked = b0.toNat / 64 % 2
      ∧ (packetOf b0 b1 b2 b3 payload).payloadLength.toNat = b1.toNat / 16 + 16 * b2.toNat
      ∧ count (packetOf b0 b1 b2 b3 payload).reliable = b0.toNat / 128
      ∧ (packetOf b0 b1 b2 b3 payload).type.toNat = b1.toNat % 16 := by
  have hreliable : b0.toNat / 128 % 2 = b0.toNat / 128 := by omega
  refine ⟨?_, ?_, count_getLsbD b0 6, headerLength_toNat b1 b2, (count_getLsbD b0 7).trans hreliable, ?_⟩ <;>
    simp [packetOf, BitVec.extractLsb'_toNat, Nat.shiftRight_eq_div_pow]

/-! ### The checks of PKT.DECODE in their order (R152, R153) -/

theorem decodePkt_of_length_lt {k : Bytes} (hk : k.length < 4) (c : Cfg) : decodePkt c k = .error .lengthMismatch := by
  match k with
  | [] | [_] | [_, _] | [_, _, _] => rfl
  | _ :: _ :: _ :: _ :: _ => exact absurd hk (by simp)

/-- PKT.DECODE of at least four bytes, with the declared length and the trailer's length by the arithmetic of R99 and R152. -/
theorem decodePkt_cons (c : Cfg) (b0 b1 b2 b3 : Byte) (rest : Bytes) {len t : Nat} (hlen : len = b1.toNat / 16 + 16 * b2.toNat)
    (ht : t = if b0.toNat / 64 % 2 = 1 then c.integrityLen else 0) :
    decodePkt c (b0 :: b1 :: b2 :: b3 :: rest)
      = if b3 ≠ hdrChecksum c b0 b1 b2 then .error .headerChecksumMismatch
        else if rest.length ≠ len + t then .error .lengthMismatch
        else if b0.toNat / 64 % 2 = 1 ∧ rest.drop len ≠ integrityFn c (b0 :: b1 :: b2 :: b3 :: rest.take len) then
          .error .payloadChecksumMismatch
        else .ok (packetOf b0 b1 b2 b3 (rest.take len)) := by
  have htake : (b0 :: b1 :: b2 :: b3 :: rest).take (Config.headerLen + len) = b0 :: b1 :: b2 :: b3 :: rest.take len := by
    simp [Config.headerLen, Nat.add_comm 4]
  rw [← headerLength_toNat] at hlen
  rw [← trailerLength_eq] at ht
  subst hlen ht
  simp only [decodePkt, htake, getLsbD_six_iff]

end Sys2Proof.Machine

namespace Sys2Proof.Safety

open Machine

/-- Settles O4: the outcome is `buildPacket` of the numbers modulo 8, and each header byte is a sum of its shifted fields. -/
theorem packetEncodeBytes : Obligations.PacketEncodeBytes := by
  intro c p seq ack reliable integrity type
  refine ⟨fun h => encodePkt_ackWithoutNumber h c p seq reliable integrity,
    fun h hp => encodePkt_invalidLength h hp c seq reliable integrity, fun h hp => ?_⟩
  have hl := toNat_ofNat_length hp
  refine ⟨_, _, _, _, encodePkt_packet h hp c seq reliable integrity, ?_, ?_, ?_, buildPacket_eq .., buildPacket_length ..⟩
  · rw [headerByte0_toNat, toNat_eq_count, toNat_eq_count, BitVec.toNat_setWidth, BitVec.toNat_setWidth]
  · rw [headerByte1_toNat, hl]
  · rw [headerByte2_toNat, hl]

/-- Settles O5: PKT.DECODE inverts `buildPacket`, which is what PKT.ENCODE answers on numbers of 3 bits. -/
theorem packetCodecRoundTrip : Obligations.PacketCodecRoundTrip := by
  intro c p seq ack reliable integrity type hp
  have hencode := encodePkt_setWidth hp c seq ack reliable integrity type
  have hdecode := decodePkt_buildPacket c p seq ack reliable integrity type hp
  rw [buildPacket_eq] at hencode hdecode
  exact ⟨_, _, _, _, _, hencode, hdecode, rfl, rfl, rfl, rfl, toNat_ofNat_length hp, rfl, rfl, rfl⟩

/-- Settles O6: the checks are tried in the order of R153, and the record's fields are read off the header by division. -/
theorem packetDecodeChecks : Obligations.PacketDecodeChecks := by
  intro c
  refine ⟨fun k hk => decodePkt_of_length_lt hk c, fun b0 b1 b2 b3 rest len t hlen ht => ?_⟩
  rw [decodePkt_cons c b0 b1 b2 b3 rest hlen ht]
  refine ⟨fun hsum => if_pos hsum, fun hsum hcount => ?_, fun hsum hcount hbit htrailer => ?_, fun hsum hcount htrailer => ?_⟩
  · rw [if_neg (not_not.2 hsum), if_pos hcount]
  · rw [if_neg (not_not.2 hsum), if_neg (not_not.2 hcount), if_pos ⟨hbit, htrailer⟩]
  · have hpass : ¬ (b0.toNat / 64 % 2 = 1 ∧ rest.drop len ≠ integrityFn c (b0 :: b1 :: b2 :: b3 :: rest.take len)) :=
      fun ⟨hbit, hne⟩ => hne (htrailer hbit)
    rw [if_neg (not_not.2 hsum), if_neg (not_not.2 hcount), if_neg hpass]
    obtain ⟨hseq, hack, hintegrity, hlength, hreliable, htype⟩ := packetOf_fields b0 b1 b2 b3 (rest.take len)
    exact ⟨_, rfl, rfl, hseq, hack, hintegrity, hlength.trans hlen.symm, rfl, hreliable, htype⟩

/-- Settles O8: FRAME.DECODE gives the packet back, and the packet's own round trip (R156) does the rest. -/
theorem packetThroughFrame : Obligations.PacketThroughFrame := by
  intro c p k seq ack reliable integrity type hc hk
  obtain ⟨b0, b1, b2, tail, d, hencode, hdecode, hfields⟩ :=
    packetCodecRoundTrip c p seq ack reliable integrity type (length_le_of_encodePkt_packet hk)
  obtain rfl := PktEncoded.packet.inj (hk.symm.trans hencode)
  refine ⟨b0, b1, b2, d, rfl, ?_, hfields⟩
  rw [decodeFrame_encodeFrame hc]
  exact hdecode

/-- Settles O16: the port shows the outcome of `encodePkt`, whose three cases are the checks of R151. -/
theorem pktEncodePort : Obligations.PktEncodePort := by
  intro s p seq ack reliable integrity type
  have hexec : exec (.pktEncode p seq ack reliable integrity type) s
      = .next (s.putEncoded (encodePkt s.cfg p seq ack reliable integrity type)) := rfl
  refine ⟨fun h => ?_, fun h hp => ?_, fun h hp => ⟨_, encodePkt_packet h hp s.cfg seq reliable integrity, ?_⟩⟩ <;> rw [hexec]
  · rw [encodePkt_ackWithoutNumber h]; rfl
  · rw [encodePkt_invalidLength h hp]; rfl
  · rw [encodePkt_packet h hp]; rfl

end Sys2Proof.Safety

namespace Sys2Proof.Machine

open Safety

/-! ### The STATUS indications between two states (R110, R170) -/

/-- What has been sent since `s` carries exactly the STATUS indications `l`. -/
def reports (s t : State) (l : List (ConnState × Cause)) : Prop := ∃ new, t.out = s.out ++ new ∧ statuses new = l

/-- No transition: `state` stands and no STATUS is sent (R170). -/
def silent (s t : State) : Prop := t.state = s.state ∧ reports s t []

theorem reports_of_out_eq {s t : State} (hout : t.out = s.out) : reports s t [] := ⟨[], by rw [hout, List.append_nil], rfl⟩

theorem reports_of_put {s t : State} {o : OutMsg} {l : List (ConnState × Cause)} (hout : t.out = s.out ++ [o])
    (ho : statuses [o] = l) : reports s t l :=
  ⟨[o], hout, ho⟩

theorem reports_trans {s t u : State} {l m : List (ConnState × Cause)} (h : reports s t l) (h' : reports t u m) :
    reports s u (l ++ m) := by
  obtain ⟨new, hout, rfl⟩ := h
  obtain ⟨new', hout', rfl⟩ := h'
  exact ⟨new ++ new', by rw [hout', hout, List.append_assoc], List.filterMap_append⟩

theorem silent_of_out_eq {s t : State} (hstate : t.state = s.state) (hout : t.out = s.out) : silent s t :=
  ⟨hstate, reports_of_out_eq hout⟩

/-- One message that is no STATUS. -/
theorem silent_of_put {s t : State} {o : OutMsg} (hstate : t.state = s.state) (hout : t.out = s.out ++ [o])
    (ho : statuses [o] = []) : silent s t :=
  ⟨hstate, reports_of_put hout ho⟩

theorem silent_refl (s : State) : silent s s := silent_of_out_eq rfl rfl

theorem silent_trans {s t u : State} (h : silent s t) (h' : silent t u) : silent s u :=
  ⟨h'.1.trans h.1, reports_trans h.2 h'.2⟩

theorem silent_ite {s t u : State} {p : Prop} [Decidable p] (ht : silent s t) (hu : silent s u) : silent s (if p then t else u) := by
  split
  · exact ht
  · exact hu

theorem State.emit_silent (f : Bytes) (s : State) : silent s (s.emit f) := silent_of_put rfl rfl rfl

theorem State.emitIfOpen_silent (f : Bytes) (s : State) : silent s (s.emitIfOpen f) :=
  silent_ite (s.emit_silent f) (silent_refl s)

theorem State.endSend_silent (r : ResultCode) (s : State) : silent s (s.endSend r) := silent_of_put rfl rfl rfl

/-! ### Packets, frames and bytes move no state (R140, R170) -/

theorem State.notePeerResponded_silent (s : State) : silent s s.notePeerResponded := silent_of_out_eq rfl rfl

theorem State.onSyncActive_silent (s : State) : silent s s.onSyncActive := silent_of_out_eq rfl rfl

theorem State.onAck_silent (d : Packet) (s : State) : silent s (s.onAck d) := by
  rcases s.onAck_cases d with ⟨h, -⟩ | h | ⟨h, -⟩ | ⟨h, -⟩ <;> rw [h]
  · exact silent_refl s
  · exact silent_of_out_eq rfl rfl
  · exact silent_of_out_eq rfl rfl
  · exact State.endSend_silent .ok { s with seqNum := seqIncr s.seqNum }

theorem State.onData_silent (d : Packet) (s : State) : silent s (s.onData d) := by
  rcases s.onData_cases d with ⟨h, -⟩ | ⟨h, -⟩ <;> rw [h]
  · exact silent_trans (State.emit_silent _ { s with ackNum := seqIncr s.ackNum }) (silent_of_put rfl rfl rfl)
  · exact s.emit_silent _

theorem State.dispatch_silent (k : PacketKind) (d : Packet) (s : State) : silent s (s.dispatch k d) := by
  rcases s.dispatch_cases k d with h | ⟨h, -⟩ | ⟨h, -⟩ | ⟨h, -⟩ | ⟨h, -⟩ | ⟨h, -⟩ | ⟨h, -⟩ <;> rw [h]
  · exact silent_refl s
  · exact s.notePeerResponded_silent
  · exact s.onSyncActive_silent
  · exact s.emit_silent _
  · exact s.emit_silent _
  · exact s.onAck_silent d
  · exact s.onData_silent d

theorem State.rxFrame_silent (chunk : Bytes) (ovf : Bool) (s : State) : silent s (s.rxFrame chunk ovf) := by
  rcases s.rxFrame_cases chunk ovf with ⟨e, h⟩ | ⟨k, d, h⟩ <;> rw [h]
  · exact silent_of_put rfl rfl rfl
  · exact s.dispatch_silent k d

theorem State.consume_silent (b : Byte) (s : State) : silent s (s.consume b) := by
  rcases s.consume_cases b with ⟨h, -⟩ | ⟨h, -⟩ | ⟨h, -⟩ | ⟨h, -⟩ | ⟨h, -⟩ | ⟨h, -⟩ <;> rw [h]
  · exact silent_of_out_eq rfl rfl
  · exact State.rxFrame_silent s.chunk s.rxOvf { s with rxBuf := [], rxOvf := false }
  all_goals exact silent_of_out_eq rfl rfl

theorem State.consumeAll_silent (bs : Bytes) (s : State) : silent s (State.consumeAll bs s) := by
  induction bs generalizing s with
  | nil => exact silent_refl s
  | cons b rest ih => exact silent_trans (State.consume_silent b { s with inbound := rest }) (ih _)

theorem State.receive_silent (bs : Bytes) (s : State) : silent s (s.receive bs) :=
  State.consumeAll_silent (s.inbound ++ bs) (s.indicate bs)

/-! ### SEND, the timers and CLOSE.DONE move no state (R170) -/

theorem State.acceptSend_silent (p : Bytes) (s : State) : silent s (s.acceptSend p) :=
  silent_ite (silent_of_put rfl rfl rfl) (silent_ite (silent_of_put rfl rfl rfl) (silent_of_put rfl rfl rfl))

theorem State.retryHandshake_silent (f : Bytes) (s : State) : silent s (s.retryHandshake f) :=
  silent_ite (silent_refl s) (silent_ite (silent_of_put rfl rfl rfl) (silent_of_out_eq rfl rfl))

theorem State.smExpired_silent (s : State) : silent s s.smExpired := by
  unfold State.smExpired
  split
  · exact silent_of_out_eq rfl rfl
  · exact s.retryHandshake_silent _
  · exact s.retryHandshake_silent _
  all_goals exact silent_refl s

theorem State.txExpired_silent (s : State) : silent s s.txExpired :=
  silent_ite (silent_ite (silent_of_put rfl rfl rfl) (silent_of_put rfl rfl rfl)) (silent_refl s)

theorem State.openExpired_silent (s : State) : silent s s.openExpired :=
  silent_ite (silent_of_put rfl rfl rfl) (silent_refl s)

theorem State.disarm_silent (t : TimerId) (s : State) : silent s (s.disarm t) := by
  cases t <;> exact silent_of_out_eq rfl rfl

/-- CLOSE.DONE asks the transport to close and answers the CLOSE (R174). -/
theorem State.closeLink_silent (s : State) : silent s s.closeLink :=
  silent_trans (t := s.request .tClose) (silent_of_put rfl rfl rfl) (silent_of_put rfl rfl rfl)

theorem State.putEncoded_silent (r : PktEncoded) (s : State) : silent s (s.putEncoded r) := by
  cases r with
  | packet k => exact silent_of_put rfl rfl rfl
  | invalidLength => exact silent_of_put rfl rfl rfl
  | ackWithoutNumber => exact silent_of_out_eq rfl rfl

/-! ### `enter` sends one STATUS (R176) -/

theorem State.entryAction_reports (st : ConnState) (s : State) : reports s (s.entryAction st) [] := by
  cases st with
  | reset => exact reports_of_put rfl rfl
  | uninitialized => exact reports_of_put rfl rfl
  | initialized => exact reports_of_put rfl rfl
  | active | start | failed | noResponse | closed => exact reports_of_out_eq rfl

theorem State.completeOpen_reports (st : ConnState) (s : State) : reports s (s.completeOpen st) [] := by
  unfold State.completeOpen
  split
  · split
    · exact reports_of_put rfl rfl
    · exact reports_of_out_eq rfl
  · exact reports_of_out_eq rfl

theorem State.enter_reports (st : ConnState) (c : Cause) (s : State) : reports s (s.enter st c) [(st, c)] := by
  have hstatus : reports s (({ s with state := st, exit := s.exit.clearPerState }.disarm .sm).status st c) [(st, c)] :=
    reports_of_put rfl rfl
  exact reports_trans hstatus (reports_trans (State.entryAction_reports st _) (State.completeOpen_reports st _))

/-! ### The guards of the sequencer as conditions (R174, R177 to R194, R228) -/

theorem ExitFlags.abort_iff (e : ExitFlags) : e.abort = true ↔ e.ioError = true ∨ e.close = true := by
  simp [ExitFlags.abort]

theorem ExitFlags.abort_eq_false_iff (e : ExitFlags) : e.abort = false ↔ e.ioError = false ∧ e.close = false := by
  simp [ExitFlags.abort]

section
variable (s : State)

theorem State.canSeqAbort_iff :
    s.canSeqAbort = true ↔ s.linkOpen = true ∧ isTerminal s.state = false ∧ (s.exit.ioError = true ∨ s.exit.close = true) := by
  simp [State.canSeqAbort, ExitFlags.abort_iff, and_assoc]

theorem State.canSeqStart_iff :
    s.canSeqStart = true ↔ s.state = .start ∧ s.exit.ioError = false ∧ s.exit.close = false ∧ s.exit.opened = true := by
  simp [State.canSeqStart, ExitFlags.abort_eq_false_iff, and_assoc]

theorem State.canSeqReset_iff :
    s.canSeqReset = true ↔ s.state = .reset ∧ s.exit.ioError = false ∧ s.exit.close = false ∧ s.exit.resetSent = true
      ∧ s.exit.resetWaitDone = true := by
  simp [State.canSeqReset, ExitFlags.abort_eq_false_iff, and_assoc]

theorem State.canSeqUninitOk_iff :
    s.canSeqUninitOk = true ↔ s.state = .uninitialized ∧ s.exit.ioError = false ∧ s.exit.close = false
      ∧ s.exit.peerResponded = true := by
  simp [State.canSeqUninitOk, ExitFlags.abort_eq_false_iff, and_assoc]

theorem State.canSeqUninitNr_iff :
    s.canSeqUninitNr = true ↔ s.state = .uninitialized ∧ s.exit.ioError = false ∧ s.exit.close = false
      ∧ s.exit.peerResponded = false ∧ s.exit.retryExhausted = true := by
  simp [State.canSeqUninitNr, ExitFlags.abort_eq_false_iff, and_assoc]

theorem State.canSeqInitOk_iff :
    s.canSeqInitOk = true ↔ s.state = .initialized ∧ s.exit.ioError = false ∧ s.exit.close = false
      ∧ s.exit.peerResponded = true := by
  simp [State.canSeqInitOk, ExitFlags.abort_eq_false_iff, and_assoc]

theorem State.canSeqInitNr_iff :
    s.canSeqInitNr = true ↔ s.state = .initialized ∧ s.exit.ioError = false ∧ s.exit.close = false
      ∧ s.exit.peerResponded = false ∧ s.exit.retryExhausted = true := by
  simp [State.canSeqInitNr, ExitFlags.abort_eq_false_iff, and_assoc]

theorem State.canSeqActive_iff :
    s.canSeqActive = true ↔ s.state = .active ∧ s.exit.ioError = false ∧ s.exit.close = false
      ∧ (s.exit.syncReceived = true ∨ s.exit.syncError = true) := by
  simp [State.canSeqActive, ExitFlags.abort_eq_false_iff, and_assoc]

theorem State.canCloseDone_iff :
    s.canCloseDone = true ↔ s.closePending = true ∧ isTerminal s.state = true ∧ s.txBusy = false := by
  simp [State.canCloseDone, and_assoc]

end

/-! ### The rows of the transition table (R170) -/

/-- `t` comes of `enter` along a row of the table, out of a state that is not terminal. -/
def takesRow (s t : State) : Prop :=
  ∃ st c, t = s.enter st c ∧ isTerminal s.state = false ∧ transition s (some c) st

section
variable {s : State}

theorem takesRow_of_canSeqAbort (h : s.canSeqAbort = true) :
    takesRow s (if s.exit.ioError then s.enter .failed .ioError else s.enter .closed .close) := by
  obtain ⟨-, hterminal, habort⟩ := s.canSeqAbort_iff.1 h
  cases hio : s.exit.ioError with
  | true => exact ⟨.failed, .ioError, rfl, hterminal, by simp [transition, hterminal, hio]⟩
  | false => exact ⟨.closed, .close, rfl, hterminal, by simp_all [transition]⟩

theorem takesRow_of_canSeqStart (h : s.canSeqStart = true) : takesRow s (s.enter .reset .opened) := by
  obtain ⟨hstate, hio, hclose, hopened⟩ := s.canSeqStart_iff.1 h
  exact ⟨_, _, rfl, by simp [hstate, isTerminal], by simp [transition, hstate, hio, hclose, hopened]⟩

theorem takesRow_of_canSeqReset (h : s.canSeqReset = true) : takesRow s (s.enter .uninitialized .resetDone) := by
  obtain ⟨hstate, hio, hclose, hsent, hdone⟩ := s.canSeqReset_iff.1 h
  exact ⟨_, _, rfl, by simp [hstate, isTerminal], by simp [transition, hstate, hio, hclose, hsent, hdone]⟩

theorem takesRow_of_canSeqUninitOk (h : s.canSeqUninitOk = true) : takesRow s (s.enter .initialized .peerResponded) := by
  obtain ⟨hstate, hio, hclose, hpeer⟩ := s.canSeqUninitOk_iff.1 h
  exact ⟨_, _, rfl, by simp [hstate, isTerminal], by simp [transition, hstate, hio, hclose, hpeer]⟩

theorem takesRow_of_canSeqUninitNr (h : s.canSeqUninitNr = true) : takesRow s (s.enter .noResponse .retryExhausted) := by
  obtain ⟨hstate, hio, hclose, hpeer, hspent⟩ := s.canSeqUninitNr_iff.1 h
  exact ⟨_, _, rfl, by simp [hstate, isTerminal], by simp [transition, hstate, hio, hclose, hpeer, hspent]⟩

theorem takesRow_of_canSeqInitOk (h : s.canSeqInitOk = true) : takesRow s (s.enter .active .peerResponded) := by
  obtain ⟨hstate, hio, hclose, hpeer⟩ := s.canSeqInitOk_iff.1 h
  exact ⟨_, _, rfl, by simp [hstate, isTerminal], by simp [transition, hstate, hio, hclose, hpeer]⟩

theorem takesRow_of_canSeqInitNr (h : s.canSeqInitNr = true) : takesRow s (s.enter .noResponse .retryExhausted) := by
  obtain ⟨hstate, hio, hclose, hpeer, hspent⟩ := s.canSeqInitNr_iff.1 h
  exact ⟨_, _, rfl, by simp [hstate, isTerminal], by simp [transition, hstate, hio, hclose, hpeer, hspent]⟩

theorem takesRow_of_canSeqActive (h : s.canSeqActive = true) :
    takesRow s (if s.exit.syncReceived then s.enter .reset .peerResync else s.enter .reset .ackMismatch) := by
  obtain ⟨hstate, hio, hclose, hsync⟩ := s.canSeqActive_iff.1 h
  have hterminal : isTerminal s.state = false := by simp [hstate, isTerminal]
  cases hrec : s.exit.syncReceived with
  | true => exact ⟨.reset, .peerResync, rfl, hterminal, by simp [transition, hstate, hio, hclose, hrec]⟩
  | false => exact ⟨.reset, .ackMismatch, rfl, hterminal, by simp_all [transition]⟩

end

/-! ### What one operation does to `state` (R170) -/

/-- The link is closed and `t` is what OPEN makes of it. -/
def opensLink (s t : State) : Prop := s.linkOpen = false ∧ t = s.loadOpen.openTransport

theorem silent_of_next {s t u : State} (h : (Host.Outcome.next u : Host.Outcome State Fault Refusal) = .next t) (hu : silent s u) :
    silent s t := by
  cases h
  exact hu

theorem exec_hostOpen_of_linkOpen {s : State} (hopen : s.linkOpen = true) :
    exec .hostOpen s = .next (s.complete .opn .invalidState) :=
  congrArg Host.Outcome.next (if_pos hopen)

theorem exec_hostOpen_of_closed {s : State} (hclosed : s.linkOpen = false) : exec .hostOpen s = .next s.loadOpen.openTransport :=
  congrArg Host.Outcome.next (if_neg (Bool.eq_false_iff.1 hclosed))

/-- A guarded step that moves no state where it fires moves none at all. -/
theorem silent_of_guarded {s t u : State} {g : Bool} (h : s.guarded g u = .next t) (hu : silent s u) : silent s t := by
  rcases State.guarded_next h with ⟨-, rfl⟩ | ⟨-, rfl⟩
  · exact hu
  · exact silent_refl t

theorem execRxByte_silent {s t : State} (h : execRxByte s = .next t) : silent s t := by
  unfold execRxByte at h
  split at h
  · exact silent_of_next h (silent_refl s)
  · next b rest _ => exact silent_of_next h (State.consume_silent b { s with inbound := rest })

/-- A guarded step of the sequencer stutters or takes a row. -/
theorem silent_or_takesRow_of_guarded {s t u : State} {g : Bool} (h : s.guarded g u = .next t) (hu : g = true → takesRow s u) :
    silent s t ∨ takesRow s t := by
  rcases State.guarded_next h with ⟨hg, rfl⟩ | ⟨-, rfl⟩
  · exact .inr (hu hg)
  · exact .inl (silent_refl t)

/-- R170: every operation but hardware reset leaves `state` without a STATUS, except OPEN and the eight steps of the sequencer. -/
theorem exec_silent_or_moves {s t : State} {i : Instr} (hi : i ≠ .hwReset) (h : exec i s = .next t) :
    silent s t ∨ takesRow s t ∨ (i = .hostOpen ∧ opensLink s t) := by
  cases i with
  | hwReset => exact absurd rfl hi
  | hostOpen =>
    cases hopen : s.linkOpen with
    | true =>
      rw [exec_hostOpen_of_linkOpen hopen] at h
      exact .inl (silent_of_next h (silent_of_put rfl rfl rfl))
    | false =>
      rw [exec_hostOpen_of_closed hopen] at h
      exact .inr (.inr ⟨rfl, hopen, (Host.Outcome.next.inj h).symm⟩)
  | seqAbort => exact (silent_or_takesRow_of_guarded h takesRow_of_canSeqAbort).imp_right .inl
  | seqStart => exact (silent_or_takesRow_of_guarded h takesRow_of_canSeqStart).imp_right .inl
  | seqReset => exact (silent_or_takesRow_of_guarded h takesRow_of_canSeqReset).imp_right .inl
  | seqUninitOk => exact (silent_or_takesRow_of_guarded h takesRow_of_canSeqUninitOk).imp_right .inl
  | seqUninitNr => exact (silent_or_takesRow_of_guarded h takesRow_of_canSeqUninitNr).imp_right .inl
  | seqInitOk => exact (silent_or_takesRow_of_guarded h takesRow_of_canSeqInitOk).imp_right .inl
  | seqInitNr => exact (silent_or_takesRow_of_guarded h takesRow_of_canSeqInitNr).imp_right .inl
  | seqActive => exact (silent_or_takesRow_of_guarded h takesRow_of_canSeqActive).imp_right .inl
  | delim | escDelimToken | escEscToken | literal _ | escInvalid _ =>
    exact .inl (silent_of_next h (s.receive_silent _))
  | kAck d => exact .inl (silent_of_next h (s.dispatch_silent .ack d))
  | kData d => exact .inl (silent_of_next h (s.dispatch_silent .data d))
  | kSync d => exact .inl (silent_of_next h (s.dispatch_silent .sync d))
  | kSyncRsp d => exact .inl (silent_of_next h (s.dispatch_silent .syncRsp d))
  | kConfig d => exact .inl (silent_of_next h (s.dispatch_silent .config d))
  | kConfigRsp d => exact .inl (silent_of_next h (s.dispatch_silent .configRsp d))
  | kDataUnrel _ | kReset _ | kOther _ => exact .inl (silent_of_next h (silent_refl s))
  | resetFrame | syncFrame | syncRspFrame | configFrame | configRspFrame | ackFrame _ =>
    exact .inl (silent_of_next h (s.emitIfOpen_silent _))
  | dataFrame _ _ _ => exact .inl (silent_of_next h (silent_ite (s.emitIfOpen_silent _) (silent_refl s)))
  | frameEncode _ | frameDecode _ | pktDecode _ | seqInc _ | tLog _ _ =>
    exact .inl (silent_of_next h (silent_of_put rfl rfl rfl))
  | pktEncode _ _ _ _ _ _ => exact .inl (silent_of_next h (s.putEncoded_silent _))
  | hostClose => exact .inl (silent_of_next h (silent_ite (silent_of_put rfl rfl rfl) (silent_of_out_eq rfl rfl)))
  | hostSend p => exact .inl (silent_of_next h (silent_ite (silent_of_out_eq rfl rfl) (s.acceptSend_silent p)))
  | tData _ | tStatus _ _ => exact .inl (silent_of_next h (silent_of_out_eq rfl rfl))
  | rxByte => exact .inl (execRxByte_silent h)
  | rxFrame chunk ovf => exact .inl (silent_of_guarded h (s.rxFrame_silent chunk ovf))
  | rxSyncRsp | rxConfigRsp => exact .inl (silent_of_guarded h s.notePeerResponded_silent)
  | rxSync | rxConfig => exact .inl (silent_of_guarded h (s.emit_silent _))
  | rxSyncActive => exact .inl (silent_of_guarded h s.onSyncActive_silent)
  | rxAck d => exact .inl (silent_of_guarded h (s.onAck_silent d))
  | rxData d => exact .inl (silent_of_guarded h (s.onData_silent d))
  | closeDone => exact .inl (silent_of_guarded h s.closeLink_silent)
  | txAbort => exact .inl (silent_of_guarded h (silent_ite (s.endSend_silent _) (s.endSend_silent _)))
  | tSmExpire => exact .inl (silent_of_guarded h (silent_trans (s.disarm_silent .sm) (State.smExpired_silent _)))
  | tTxExpire => exact .inl (silent_of_guarded h (silent_trans (s.disarm_silent .tx) (State.txExpired_silent _)))
  | tOpenExpire => exact .inl (silent_of_guarded h (silent_trans (s.disarm_silent .opn) (State.openExpired_silent _)))
  | tick => exact .inl (silent_of_guarded h (silent_of_out_eq rfl rfl))

end Sys2Proof.Machine

namespace Sys2Proof.Safety

open Machine

/-- Settles O49: `enter` sends the one STATUS of its cause, OPEN sends none, and nothing else moves `state`; on a closed link the
invariant leaves only terminal states, out of which no row leads. -/
theorem transitionGraph : Obligations.TransitionGraph := by
  intro s t i hinv hi hexec
  rcases exec_silent_or_moves hi hexec with ⟨hstate, new, hout, hnone⟩ | ⟨st, c, rfl, hterminal, hrow⟩ | ⟨rfl, hclosed, rfl⟩
  · exact ⟨new, hout, .inl ⟨hstate, hnone⟩⟩
  · obtain ⟨new, hout, hstatus⟩ := s.enter_reports st c
    have hopen : s.linkOpen = true := by
      by_contra hclosed
      obtain ⟨hquiet, -⟩ := hinv.closed (Bool.eq_false_iff.2 hclosed)
      simp [hquiet] at hterminal
    refine ⟨new, hout, .inr ⟨some c, ?_, .inl hopen, ?_⟩⟩ <;> rw [State.enter_state]
    · exact hrow
    · exact hstatus
  · exact ⟨[.tq .tOpen s.loadOpen.nextAnswer], rfl, .inr ⟨none, .inl ⟨hclosed, rfl, rfl⟩, .inr rfl, rfl⟩⟩

end Sys2Proof.Safety

namespace Sys2Proof.Machine

open Safety

/-! ### Guarded steps that fire -/

theorem State.guarded_of_true {g : Bool} (hg : g = true) (s t : State) : s.guarded g t = .next t := by
  rw [hg, State.guarded_true]

/-! ### The cells of the dispatch table for the handshake (R140, R197 to R200, R226) -/

section
variable {s : State}

theorem State.dispatchSync_answers (h : s.state = .uninitialized ∨ s.state = .initialized) :
    s.dispatchSync = s.emit (syncRspFrameOf s.cfg) := by
  rcases h with h | h <;> simp [State.dispatchSync, h]

theorem State.dispatchSync_active (h : s.state = .active) : s.dispatchSync = s.onSyncActive := by
  simp [State.dispatchSync, h]

theorem State.dispatchSync_drops (h : s.state = .start ∨ s.state = .reset) : s.dispatchSync = s := by
  rcases h with h | h <;> simp [State.dispatchSync, h]

theorem State.dispatchConfig_answers (h : s.state = .initialized ∨ s.state = .active) :
    s.dispatchConfig = s.emit (configRspFrameOf s.cfg) := by
  rcases h with h | h <;> simp [State.dispatchConfig, h]

theorem State.dispatchConfig_drops (h : s.state = .start ∨ s.state = .reset ∨ s.state = .uninitialized) :
    s.dispatchConfig = s := by
  rcases h with h | h | h <;> simp [State.dispatchConfig, h]

theorem State.dispatchSyncRsp_notes (h : s.state = .uninitialized) : s.dispatchSyncRsp = s.notePeerResponded := by
  simp [State.dispatchSyncRsp, h]

theorem State.dispatchSyncRsp_drops (h : s.state ≠ .uninitialized) : s.dispatchSyncRsp = s := by
  unfold State.dispatchSyncRsp
  split
  · contradiction
  all_goals rfl

theorem State.dispatchConfigRsp_notes (h : s.state = .initialized) : s.dispatchConfigRsp = s.notePeerResponded := by
  simp [State.dispatchConfigRsp, h]

theorem State.dispatchConfigRsp_drops (h : s.state ≠ .initialized) : s.dispatchConfigRsp = s := by
  unfold State.dispatchConfigRsp
  split
  · contradiction
  all_goals rfl

end

/-! ### CLOSE.DONE and the sequencer's timer -/

theorem closeResult_eq (a : Answer) : closeResult a = if a = .ok then .ok else .transportError := by
  cases a <;> rfl

/-- R174: CLOSE.DONE issues T_CLOSE, whatever the transport may answer, and the answer gives the result of the CLOSE. -/
theorem State.closeLink_answered (s : State) : ∃ a r1 r2 r3 n, mayAnswer s a ∧
    s.closeLink = { s with
      linkOpen := false, closePending := false, rxSync := false, rxBuf := [], rxOvf := false
      tSm := ⟨false, r1⟩, tTx := ⟨false, r2⟩, tOpen := ⟨false, r3⟩
      out := s.out ++ [.tq .tClose a, .hr .close (if a = .ok then .ok else .transportError)]
      answers := s.answers.tail, freeCount := n } := by
  refine ⟨s.nextAnswer, Config.freeRem s.countAfterRequest, Config.freeRem (s.countAfterRequest + 1),
    Config.freeRem (s.countAfterRequest + 2), s.countAfterRequest + 3, s.nextAnswer_of_head, ?_⟩
  rw [← closeResult_eq]
  simp [State.closeLink, State.request, State.disarm, State.setTimer, State.clearRx, State.put]

theorem Timer.expired_iff (t : Timer) : t.expired = true ↔ t.armed = true ∧ t.rem = 0 := by
  simp [Timer.expired]

/-- What stops the attempts before the budget does (R195): a response or an abort flag. -/
theorem ExitFlags.stops_iff (e : ExitFlags) :
    (e.peerResponded || e.abort) = true ↔ e.peerResponded = true ∨ e.ioError = true ∨ e.close = true := by
  rw [Bool.or_eq_true, ExitFlags.abort_iff]

theorem ExitFlags.not_stops {e : ExitFlags} (hpeer : e.peerResponded = false) (hio : e.ioError = false) (hclose : e.close = false) :
    ¬ (e.peerResponded || e.abort) = true := by
  rw [ExitFlags.stops_iff, hpeer, hio, hclose]
  simp

section
variable {s : State} (f : Bytes)

theorem State.retryHandshake_stopped (h : s.exit.peerResponded = true ∨ s.exit.ioError = true ∨ s.exit.close = true) :
    s.retryHandshake f = s :=
  if_pos (s.exit.stops_iff.2 h)

/-- With no response, no abort flag and a spent budget, the attempts end (R186, R192). -/
theorem State.retryHandshake_spent (hpeer : s.exit.peerResponded = false) (hio : s.exit.ioError = false)
    (hclose : s.exit.close = false) (hspent : s.retryCnt = 0) :
    s.retryHandshake f = { s with exit := { s.exit with retryExhausted := true } } :=
  (if_neg (ExitFlags.not_stops hpeer hio hclose)).trans (if_neg (not_not.2 hspent))

/-- With no response, no abort flag and some budget left, the frame is sent once more (R186, R192). -/
theorem State.retryHandshake_again (hpeer : s.exit.peerResponded = false) (hio : s.exit.ioError = false)
    (hclose : s.exit.close = false) (hleft : s.retryCnt ≠ 0) : ∃ a n, mayAnswer s a ∧
    s.retryHandshake f = { s with
      retryCnt := s.retryCnt - 1, exit := { s.exit with ioError := a == .err }
      tSm := ⟨true, BitVec.ofNat 16 (ticks s.cfg s.cfg.retxInterval)⟩
      out := s.out ++ [.tq (.tSend f) a], answers := s.answers.tail, freeCount := n } := by
  have hsends : s.retryHandshake f = { s.emit f with retryCnt := s.retryCnt - 1 }.arm .sm s.cfg.retxInterval :=
    (if_neg (ExitFlags.not_stops hpeer hio hclose)).trans (if_pos hleft)
  obtain ⟨a, n, hanswer, hemit⟩ := s.emit_answered f
  rw [hio] at hemit
  exact ⟨a, n, hanswer, by rw [hsends, hemit]; rfl⟩

end

section
variable {s : State}

theorem State.smExpired_reset (h : s.state = .reset) : s.smExpired = { s with exit := { s.exit with resetWaitDone := true } } := by
  simp [State.smExpired, h]

theorem State.smExpired_uninitialized (h : s.state = .uninitialized) : s.smExpired = s.retryHandshake (syncFrameOf s.cfg) := by
  simp [State.smExpired, h]

theorem State.smExpired_initialized (h : s.state = .initialized) : s.smExpired = s.retryHandshake (configFrameOf s.cfg) := by
  simp [State.smExpired, h]

theorem State.smExpired_elsewhere (hreset : s.state ≠ .reset) (huninit : s.state ≠ .uninitialized)
    (hinit : s.state ≠ .initialized) : s.smExpired = s := by
  unfold State.smExpired
  split
  · contradiction
  · contradiction
  · contradiction
  all_goals rfl

end

/-- The expiry of `t_sm` disarms it and does what R195 says of the state. -/
theorem exec_tSmExpire_of_due {s : State} (ha : s.tSm.armed = true) (hr : s.tSm.rem = 0) :
    exec .tSmExpire s = .next (s.disarm .sm).smExpired :=
  State.guarded_of_true (s.tSm.expired_iff.2 ⟨ha, hr⟩) s _

end Sys2Proof.Machine

namespace Sys2Proof.Safety

open Machine

/-- Settles O24: each packet finds its cell of the dispatch table, and an answer is the `emit` of its frame. -/
theorem handshakePacketsAnswered : Obligations.HandshakePacketsAnswered := by
  intro s d i
  refine ⟨fun f hanswered => ?_, ?_, ?_⟩
  · have hexec : exec i s = .next (s.emit f) := by
      rcases hanswered with ⟨rfl | rfl, hstate, rfl⟩ | ⟨rfl | rfl, hstate, rfl⟩
      · exact congrArg Host.Outcome.next (State.dispatchSync_answers hstate)
      · exact State.guarded_of_true (by simpa using hstate) s _
      · exact congrArg Host.Outcome.next (State.dispatchConfig_answers hstate)
      · exact State.guarded_of_true (by simpa using hstate) s _
    rw [hexec]
    obtain ⟨a, n, hanswer, hemit⟩ := s.emit_answered f
    exact ⟨a, n, hanswer, congrArg Host.Outcome.next hemit⟩
  · rintro (rfl | rfl) hstate
    · exact congrArg Host.Outcome.next (State.dispatchSync_active hstate)
    · exact State.guarded_of_true (by simpa using hstate) s _
  · rintro (⟨rfl, hstate⟩ | ⟨rfl, hstate⟩)
    · exact congrArg Host.Outcome.next (State.dispatchSync_drops hstate)
    · exact congrArg Host.Outcome.next (State.dispatchConfig_drops hstate)

/-- Settles O25: each response has one cell of the dispatch table that notes it, and every other cell drops it. -/
theorem responsesNoted : Obligations.ResponsesNoted := by
  intro s d i
  constructor
  · rintro (⟨rfl | rfl, hstate⟩ | ⟨rfl | rfl, hstate⟩)
    · exact congrArg Host.Outcome.next (State.dispatchSyncRsp_notes hstate)
    · exact State.guarded_of_true (by simpa using hstate) s _
    · exact congrArg Host.Outcome.next (State.dispatchConfigRsp_notes hstate)
    · exact State.guarded_of_true (by simpa using hstate) s _
  · rintro (⟨rfl, hstate⟩ | ⟨rfl, hstate⟩)
    · exact congrArg Host.Outcome.next (State.dispatchSyncRsp_drops hstate)
    · exact congrArg Host.Outcome.next (State.dispatchConfigRsp_drops hstate)

/-- Settles O28: an accepted OPEN loads its registers and then issues T_OPEN, whose answer sets one of two flags. -/
theorem openAccepted : Obligations.OpenAccepted := by
  intro s
  refine ⟨exec_hostOpen_of_linkOpen, fun hclosed => ?_⟩
  rw [exec_hostOpen_of_closed hclosed]
  exact ⟨s.loadOpen.nextAnswer, _, _, _, _, s.loadOpen.nextAnswer_of_head, rfl⟩

/-- Settles O29: the one test of CLOSE decides between the answer and the two bits. -/
theorem closeAccepted : Obligations.CloseAccepted := by
  intro s
  refine ⟨fun hrefused => congrArg Host.Outcome.next (if_pos ?_), fun hopen hpending => congrArg Host.Outcome.next (if_neg ?_)⟩
  · simpa using hrefused
  · simp [hopen, hpending]

/-- Settles O30: the guard holds, and the answer to T_CLOSE decides the result of the CLOSE and nothing else. -/
theorem closeCompleted : Obligations.CloseCompleted := by
  intro s hpending hterminal hfree
  have hexec : exec .closeDone s = .next s.closeLink := State.guarded_of_true (s.canCloseDone_iff.2 ⟨hpending, hterminal, hfree⟩) s _
  obtain ⟨a, r1, r2, r3, n, hanswer, hclosed⟩ := s.closeLink_answered
  exact ⟨a, r1, r2, r3, n, hanswer, hexec.trans (congrArg Host.Outcome.next hclosed)⟩

/-- Settles O33: the guard holds, and `enter` does the rest. -/
theorem handshakeStatesEntered : Obligations.HandshakeStatesEntered := by
  intro s hio hclose
  refine ⟨fun hstate hopened => ?_, fun hstate hsent hdone => ?_, fun hstate hpeer => ?_⟩
  · have hexec : exec .seqStart s = .next (s.enter .reset .opened) :=
      State.guarded_of_true (s.canSeqStart_iff.2 ⟨hstate, hio, hclose, hopened⟩) s _
    obtain ⟨a, n, hanswer, henter⟩ := s.enter_reset .opened
    rw [hio, hclose] at henter
    exact ⟨a, n, hanswer, hexec.trans (congrArg Host.Outcome.next henter)⟩
  · have hexec : exec .seqReset s = .next (s.enter .uninitialized .resetDone) :=
      State.guarded_of_true (s.canSeqReset_iff.2 ⟨hstate, hio, hclose, hsent, hdone⟩) s _
    obtain ⟨a, n, hanswer, henter⟩ := s.enter_uninitialized .resetDone
    rw [hio, hclose] at henter
    exact ⟨a, n, hanswer, hexec.trans (congrArg Host.Outcome.next henter)⟩
  · have hexec : exec .seqUninitOk s = .next (s.enter .initialized .peerResponded) :=
      State.guarded_of_true (s.canSeqUninitOk_iff.2 ⟨hstate, hio, hclose, hpeer⟩) s _
    obtain ⟨a, n, hanswer, henter⟩ := s.enter_initialized .peerResponded
    rw [hio, hclose] at henter
    exact ⟨a, n, hanswer, hexec.trans (congrArg Host.Outcome.next henter)⟩

/-- Settles O34: the guard holds, and with no abort flag set `enter` leaves no flag at all. -/
theorem activeEntered : Obligations.ActiveEntered := by
  intro s hio hclose hstate hpeer
  have hexec : exec .seqInitOk s = .next (s.enter .active .peerResponded) :=
    State.guarded_of_true (s.canSeqInitOk_iff.2 ⟨hstate, hio, hclose, hpeer⟩) s _
  have hexit : s.exit.clearPerState = ExitFlags.zero := by simp [ExitFlags.clearPerState, ExitFlags.zero, hio, hclose]
  obtain ⟨r1, r2, n, henter⟩ := s.enter_active .peerResponded
  rw [hexit] at henter
  exact ⟨r1, r2, n, hexec.trans (congrArg Host.Outcome.next henter)⟩

/-- Settles O35: each of the four ways is `enter` of a terminal state under a guard that holds. -/
theorem terminalEntered : Obligations.TerminalEntered := by
  intro s i st c r hway
  have hentry : exec i s = .next (s.enter st c) ∧ isTerminal st = true ∧ openResult st = some r := by
    rcases hway with ⟨hio, hclose, hpeer, hspent, rfl, rfl, rfl, ⟨rfl, hstate⟩ | ⟨rfl, hstate⟩⟩
      | ⟨rfl, hopen, hstate, ⟨hio, rfl, rfl, rfl⟩ | ⟨hio, hclose, rfl, rfl, rfl⟩⟩
    · exact ⟨State.guarded_of_true (s.canSeqUninitNr_iff.2 ⟨hstate, hio, hclose, hpeer, hspent⟩) s _, rfl, rfl⟩
    · exact ⟨State.guarded_of_true (s.canSeqInitNr_iff.2 ⟨hstate, hio, hclose, hpeer, hspent⟩) s _, rfl, rfl⟩
    · refine ⟨(State.guarded_of_true (s.canSeqAbort_iff.2 ⟨hopen, hstate, .inl hio⟩) s _).trans ?_, rfl, rfl⟩
      rw [hio]; rfl
    · refine ⟨(State.guarded_of_true (s.canSeqAbort_iff.2 ⟨hopen, hstate, .inr hclose⟩) s _).trans ?_, rfl, rfl⟩
      rw [hio]; rfl
  obtain ⟨hexec, hterminal, hresult⟩ := hentry
  obtain ⟨r1, r2, n, henter⟩ := State.enter_terminal st r hterminal hresult c s
  exact ⟨r1, r2, n, hexec.trans (congrArg Host.Outcome.next henter)⟩

/-- Settles O38: after the disarm the state decides, and in the two handshake states the flags and the retry counter. -/
theorem sequencerTimerExpires : Obligations.SequencerTimerExpires := by
  intro s ha hr
  rw [exec_tSmExpire_of_due ha hr]
  refine ⟨fun hstate => ?_, fun hreset huninit hinit => ?_, fun f hframe => ?_⟩
  · have hsm : (s.disarm .sm).smExpired = _ := State.smExpired_reset hstate
    exact ⟨_, _, congrArg Host.Outcome.next hsm⟩
  · have hsm : (s.disarm .sm).smExpired = s.disarm .sm := State.smExpired_elsewhere hreset huninit hinit
    exact ⟨_, _, congrArg Host.Outcome.next hsm⟩
  · have hsm : (s.disarm .sm).smExpired = (s.disarm .sm).retryHandshake f := by
      rcases hframe with ⟨hstate, rfl⟩ | ⟨hstate, rfl⟩
      · exact State.smExpired_uninitialized hstate
      · exact State.smExpired_initialized hstate
    rw [hsm]
    refine ⟨fun hstopped => ?_, fun hpeer hio hclose => ⟨fun hspent => ?_, fun hleft => ?_⟩⟩
    · have hkept := State.retryHandshake_stopped (s := s.disarm .sm) f hstopped
      exact ⟨_, _, congrArg Host.Outcome.next hkept⟩
    · have hended := State.retryHandshake_spent (s := s.disarm .sm) f hpeer hio hclose hspent
      exact ⟨_, _, congrArg Host.Outcome.next hended⟩
    · obtain ⟨a, n, hanswer, hagain⟩ := State.retryHandshake_again (s := s.disarm .sm) f hpeer hio hclose hleft
      exact ⟨a, n, hanswer, congrArg Host.Outcome.next hagain⟩

/-- Settles O41: the expiry disarms the timer, and the pending bit decides whether there is a command to answer. -/
theorem openTimerExpires : Obligations.OpenTimerExpires := by
  intro s ha hr
  have hexec : exec .tOpenExpire s = .next (s.disarm .opn).openExpired := State.guarded_of_true (s.tOpen.expired_iff.2 ⟨ha, hr⟩) s _
  refine ⟨Config.freeRem s.freeCount, s.freeCount + 1, hexec.trans ?_⟩
  cases hpending : s.openPending <;> simp [State.openExpired, State.disarm, State.setTimer, State.put, hpending]

end Sys2Proof.Safety

namespace Sys2Proof.Machine

open Safety

/-! ### An acknowledgement in ACTIVE (R220) -/

theorem seqIncr_ne (n : BitVec 3) : n ≠ seqIncr n := by simp [seqIncr]

/-- The end of the SEND in flight as one update: what it leaves in the buffer and in the timer is free (R41, R44). -/
theorem State.endSend_eq (r : ResultCode) (s : State) : ∃ f rem n, s.endSend r = { s with
    txBusy := false, txFrame := f, tTx := ⟨false, rem⟩, out := s.out ++ [.hr .send r], freeCount := n } :=
  ⟨_, _, _, rfl⟩

section
variable {s : State} {d : Packet}

/-- The kind and the handler are one meaning where the guard of the handler holds. -/
theorem exec_ack_of_active {i : Instr} (hstate : s.state = .active) (hkind : kind s.cfg d = .ack)
    (hi : i = .kAck d ∨ i = .rxAck d) : exec i s = .next (s.onAck d) := by
  rcases hi with rfl | rfl
  · have hcell : s.dispatchAck d = s.onAck d := by simp [State.dispatchAck, hstate]
    exact congrArg Host.Outcome.next hcell
  · exact State.guarded_of_true (by simp [hkind, hstate]) s _

theorem State.onAck_next_busy (hack : d.ack = seqIncr s.seqNum) (hbusy : s.txBusy = true) :
    s.onAck d = { s with seqNum := seqIncr s.seqNum }.endSend .ok :=
  (if_pos hack).trans (if_pos hbusy)

theorem State.onAck_next_idle (hack : d.ack = seqIncr s.seqNum) (hidle : s.txBusy = false) :
    s.onAck d = { s with seqNum := seqIncr s.seqNum } :=
  (if_pos hack).trans (if_neg (Bool.eq_false_iff.1 hidle))

theorem State.onAck_duplicate (hack : d.ack = s.seqNum) : s.onAck d = s :=
  (if_neg (hack ▸ seqIncr_ne d.ack)).trans (if_pos hack)

theorem State.onAck_mismatch (hcurrent : d.ack ≠ s.seqNum) (hnext : d.ack ≠ seqIncr s.seqNum) :
    s.onAck d = { s with exit := { s.exit with syncError := true } } :=
  (if_neg hnext).trans (if_neg hcurrent)

end

/-! ### Reliable data in ACTIVE (R224) -/

section
variable {s : State} {d : Packet}

theorem exec_data_of_active {i : Instr} (hstate : s.state = .active) (hkind : kind s.cfg d = .data)
    (hi : i = .kData d ∨ i = .rxData d) : exec i s = .next (s.onData d) := by
  rcases hi with rfl | rfl
  · have hcell : s.dispatchData d = s.onData d := by simp [State.dispatchData, hstate]
    exact congrArg Host.Outcome.next hcell
  · exact State.guarded_of_true (by simp [hkind, hstate]) s _

/-- R224: the ACK with the advanced number goes out before the payload is delivered. -/
theorem State.onData_expected (hseq : d.seq = s.ackNum) : ∃ a n, mayAnswer s a ∧
    s.onData d = { s with
      ackNum := seqIncr s.ackNum, answers := s.answers.tail, freeCount := n
      out := s.out ++ [.tq (.tSend (ackFrameOf s.cfg (seqIncr s.ackNum))) a, .up (.data d.payload)]
      exit := { s.exit with ioError := s.exit.ioError || a == .err } } := by
  have hadvance : s.onData d
      = ({ s with ackNum := seqIncr s.ackNum }.emit (ackFrameOf s.cfg (seqIncr s.ackNum))).deliver d.payload := if_pos hseq
  obtain ⟨a, n, hanswer, hemit⟩ :=
    { s with ackNum := seqIncr s.ackNum }.emit_answered (ackFrameOf s.cfg (seqIncr s.ackNum))
  refine ⟨a, n, hanswer, ?_⟩
  rw [hadvance, hemit]
  simp [State.put]

theorem State.onData_unexpected (hseq : d.seq ≠ s.ackNum) : s.onData d = s.emit (ackFrameOf s.cfg s.ackNum) :=
  if_neg hseq

end

/-! ### SEND (R213) -/

section
variable {s : State} {p : Bytes}

theorem exec_hostSend_of_busy (hbusy : s.txBusy = true) : exec (.hostSend p) s = .next { s with hcWait := s.hcWait ++ [p] } :=
  congrArg Host.Outcome.next (if_pos hbusy)

theorem exec_hostSend_of_idle (hidle : s.txBusy = false) : exec (.hostSend p) s = .next (s.acceptSend p) :=
  congrArg Host.Outcome.next (if_neg (Bool.eq_false_iff.1 hidle))

theorem State.acceptSend_outside_active (hstate : s.state ≠ .active) : s.acceptSend p = s.complete .send .invalidState :=
  if_pos hstate

theorem State.acceptSend_too_long (hstate : s.state = .active) (hlong : Config.maxPayload < p.length) :
    s.acceptSend p = s.complete .send .invalidLength :=
  (if_neg (not_not.2 hstate)).trans (if_pos hlong)

theorem State.acceptSend_fits (hstate : s.state = .active) (hfits : p.length ≤ Config.maxPayload) :
    s.acceptSend p = s.startSend p :=
  (if_neg (not_not.2 hstate)).trans (if_neg (Nat.not_lt.2 hfits))

end

/-- R213, R214: the frame with the current numbers is stored, sent once, and its timer and budget are loaded. -/
theorem State.startSend_answered (p : Bytes) (s : State) : ∃ a n, mayAnswer s a ∧
    s.startSend p = { s with
      txFrame := dataFrameOf s.cfg p s.seqNum s.ackNum, txBusy := true, txRetryCnt := fullBudget s.cfg
      tTx := ⟨true, BitVec.ofNat 16 (ticks s.cfg s.cfg.retxInterval)⟩
      exit := { s.exit with ioError := s.exit.ioError || a == .err }
      out := s.out ++ [.tq (.tSend (dataFrameOf s.cfg p s.seqNum s.ackNum)) a]
      answers := s.answers.tail, freeCount := n } :=
  ⟨s.nextAnswer, s.countAfterRequest, s.nextAnswer_of_head, rfl⟩

/-! ### The retransmission timer and TX.ABORT (R216, R218) -/

section
variable {s : State}

/-- The expiry of `t_tx` disarms it and does line 2 of R216. -/
theorem exec_tTxExpire_of_due (ha : s.tTx.armed = true) (hr : s.tTx.rem = 0) :
    exec .tTxExpire s = .next (s.disarm .tx).txExpired :=
  State.guarded_of_true (s.tTx.expired_iff.2 ⟨ha, hr⟩) s _

/-- What the retransmission asks for (R216): a SEND in flight and no abort flag. -/
theorem State.retransmits_iff :
    (s.txBusy && !s.exit.abort) = true ↔ s.txBusy = true ∧ s.exit.ioError = false ∧ s.exit.close = false := by
  simp [ExitFlags.abort_eq_false_iff]

theorem State.txExpired_stopped (h : s.txBusy = false ∨ s.exit.ioError = true ∨ s.exit.close = true) : s.txExpired = s := by
  refine if_neg fun hgoes => ?_
  obtain ⟨hbusy, hio, hclose⟩ := State.retransmits_iff.1 hgoes
  simp [hbusy, hio, hclose] at h

theorem State.txExpired_spent (hbusy : s.txBusy = true) (hio : s.exit.ioError = false) (hclose : s.exit.close = false)
    (hspent : s.txRetryCnt = 0) : s.txExpired = s.releaseTx.complete .send .maxRetriesReached :=
  (if_pos (State.retransmits_iff.2 ⟨hbusy, hio, hclose⟩)).trans (if_neg (not_not.2 hspent))

/-- With some budget left, the stored frame is sent once more (R216). -/
theorem State.txExpired_again (hbusy : s.txBusy = true) (hio : s.exit.ioError = false) (hclose : s.exit.close = false)
    (hleft : s.txRetryCnt ≠ 0) : ∃ a n, mayAnswer s a ∧
    s.txExpired = { s with
      txRetryCnt := s.txRetryCnt - 1, exit := { s.exit with ioError := a == .err }
      tTx := ⟨true, BitVec.ofNat 16 (ticks s.cfg s.cfg.retxInterval)⟩
      out := s.out ++ [.tq (.tSend s.txFrame) a], answers := s.answers.tail, freeCount := n } := by
  have hsends : s.txExpired = { s.emit s.txFrame with txRetryCnt := s.txRetryCnt - 1 }.arm .tx s.cfg.retxInterval :=
    (if_pos (State.retransmits_iff.2 ⟨hbusy, hio, hclose⟩)).trans (if_pos hleft)
  obtain ⟨a, n, hanswer, hemit⟩ := s.emit_answered s.txFrame
  rw [hio] at hemit
  exact ⟨a, n, hanswer, by rw [hsends, hemit]; rfl⟩

theorem State.canTxAbort_iff :
    s.canTxAbort = true ↔ s.txBusy = true ∧ (s.exit.ioError = true ∨ s.exit.close = true) := by
  simp [State.canTxAbort, ExitFlags.abort_iff]

/-- TX.ABORT under its guard is one end of the SEND, whose result the I/O error decides (R218). -/
theorem exec_txAbort_of_can (hcan : s.canTxAbort = true) :
    exec .txAbort s = .next (s.endSend (if s.exit.ioError then .transportError else .closed)) := by
  rw [apply_ite (State.endSend · s)]
  exact State.guarded_of_true hcan s _

end

/-! ### SEQ.ACTIVE (R228) -/

/-- SEQ.ACTIVE under its guard is one entry to RESET, whose cause the SYNC decides (R228). -/
theorem exec_seqActive_of_can {s : State} (hcan : s.canSeqActive = true) :
    exec .seqActive s = .next (s.enter .reset (if s.exit.syncReceived then .peerResync else .ackMismatch)) := by
  rw [apply_ite (State.enter .reset · s)]
  exact State.guarded_of_true hcan s _

end Sys2Proof.Machine

namespace Sys2Proof.Safety

open Machine

/-- Settles O26: `d.ack` is the number after `seq_num`, `seq_num` itself, or neither, and a SEND in flight ends in the first case. -/
theorem ackHandled : Obligations.AckHandled := by
  intro s d i hstate hkind hi
  rw [exec_ack_of_active hstate hkind hi]
  refine ⟨fun hnext hbusy => ?_, fun hnext hidle => ?_, fun hsame => ?_, fun hcurrent hnext => ?_⟩
  · obtain ⟨f, rem, n, hend⟩ := State.endSend_eq .ok { s with seqNum := seqIncr s.seqNum }
    exact ⟨f, rem, n, congrArg Host.Outcome.next ((State.onAck_next_busy hnext hbusy).trans hend)⟩
  · exact congrArg Host.Outcome.next (State.onAck_next_idle hnext hidle)
  · exact congrArg Host.Outcome.next (State.onAck_duplicate hsame)
  · exact congrArg Host.Outcome.next (State.onAck_mismatch hcurrent hnext)

/-- Settles O27: either way one ACK is emitted; the expected number alone advances `ack_num` and is delivered. -/
theorem dataHandled : Obligations.DataHandled := by
  intro s d i hstate hkind hi
  rw [exec_data_of_active hstate hkind hi]
  refine ⟨fun hexpected => ?_, fun hother => ?_⟩
  · obtain ⟨a, n, hanswer, hdata⟩ := State.onData_expected hexpected
    exact ⟨a, n, hanswer, congrArg Host.Outcome.next hdata⟩
  · obtain ⟨a, n, hanswer, hemit⟩ := s.emit_answered (ackFrameOf s.cfg s.ackNum)
    exact ⟨a, n, hanswer, congrArg Host.Outcome.next ((State.onData_unexpected hother).trans hemit)⟩

/-- Settles O31: `tx_busy`, the state and the length are tested in this order, and the SEND that passes is started. -/
theorem sendAccepted : Obligations.SendAccepted := by
  intro s p
  refine ⟨fun hbusy => ?_, fun hidle hstate => ?_, fun hidle hstate => ⟨fun hlong => ?_, fun hfits => ?_⟩⟩
  · exact ⟨s.hcWait ++ [p], exec_hostSend_of_busy hbusy, List.mem_append_right _ (List.mem_singleton_self p)⟩
  · exact (exec_hostSend_of_idle hidle).trans (congrArg Host.Outcome.next (State.acceptSend_outside_active hstate))
  · exact (exec_hostSend_of_idle hidle).trans (congrArg Host.Outcome.next (State.acceptSend_too_long hstate hlong))
  · obtain ⟨a, n, hanswer, hstart⟩ := s.startSend_answered p
    exact ⟨a, n, hanswer,
      (exec_hostSend_of_idle hidle).trans (congrArg Host.Outcome.next ((State.acceptSend_fits hstate hfits).trans hstart))⟩

/-- Settles O36: the guard holds, and the entry to RESET has the cause of the SYNC where there was one. -/
theorem reestablishmentEntered : Obligations.ReestablishmentEntered := by
  intro s hstate hio hclose hexit
  rw [exec_seqActive_of_can (s.canSeqActive_iff.2 ⟨hstate, hio, hclose, hexit⟩)]
  obtain ⟨a, n, hanswer, henter⟩ := s.enter_reset (if s.exit.syncReceived then .peerResync else .ackMismatch)
  rw [hio, hclose] at henter
  exact ⟨a, n, hanswer, congrArg Host.Outcome.next henter⟩

/-- Settles O39: after the disarm the SEND in flight, the abort flags and the retry counter decide. -/
theorem retransmissionTimerExpires : Obligations.RetransmissionTimerExpires := by
  intro s ha hr
  rw [exec_tTxExpire_of_due ha hr]
  refine ⟨fun hstopped => ?_, fun hbusy hio hclose => ⟨fun hspent => ?_, fun hleft => ?_⟩⟩
  · have hkept := State.txExpired_stopped (s := s.disarm .tx) hstopped
    exact ⟨_, _, congrArg Host.Outcome.next hkept⟩
  · have hended := State.txExpired_spent (s := s.disarm .tx) hbusy hio hclose hspent
    exact ⟨_, _, _, congrArg Host.Outcome.next hended⟩
  · obtain ⟨a, n, hanswer, hagain⟩ := State.txExpired_again (s := s.disarm .tx) hbusy hio hclose hleft
    exact ⟨a, n, hanswer, congrArg Host.Outcome.next hagain⟩

/-- Settles O40: the guard holds, and the SEND ends with the result of the I/O error before that of the close. -/
theorem sendAborted : Obligations.SendAborted := by
  intro s hbusy habort
  rw [exec_txAbort_of_can (State.canTxAbort_iff.2 ⟨hbusy, habort⟩)]
  obtain ⟨f, r, n, hend⟩ := State.endSend_eq (if s.exit.ioError then .transportError else .closed) s
  exact ⟨f, r, n, congrArg Host.Outcome.next hend⟩

end Sys2Proof.Safety

namespace Sys2Proof.Machine

/-! ### T_STATUS and T_LOG (R250, R251) -/

/-- T_STATUS raises `x_io_error` on an open link, for a code that `is_io_error` selects; the message has no part in it (R250). -/
theorem exec_tStatus (code : BitVec 32) (m : Bytes) (s : State) :
    exec (.tStatus code m) s
      = .next { s with exit := { s.exit with ioError := s.exit.ioError || (s.linkOpen && isIoError s.cfg code) } } := rfl

/-- T_LOG is one `put` on `UP`, in every state (R251). -/
theorem exec_tLog (sev : Byte) (m : Bytes) (s : State) :
    exec (.tLog sev m) s = .next (s.put (.up (.log (.transport sev m)))) :=
  congrArg Host.Outcome.next (State.logLine_eq_put s _)

end Sys2Proof.Machine

namespace Sys2Proof.Safety

open Machine

/-- Settles O43: T_STATUS writes the one exit flag, and T_LOG is a `put`, which appends to the ports' record alone. -/
theorem transportIndications : Obligations.TransportIndications := by
  intro s code m sev
  exact ⟨exec_tStatus code m s, exec_tLog sev m s⟩

end Sys2Proof.Safety

namespace Sys2Proof.Machine

open Safety

/-! ### Where `unstuff` stops (R132) -/

/-- A stuffed payload in front of a body hides none of the body's faults. -/
theorem unstuff_stuff_append_error {c : Cfg} (hc : framingOk c = true) (p : Bytes) {rest : Bytes}
    (h : unstuff c rest = .error .malformedFrame) : unstuff c (stuff c p ++ rest) = .error .malformedFrame := by
  rw [unstuff_stuff_append hc, h, foldr_consResult_error]

theorem unstuff_error_iff {c : Cfg} (hc : framingOk c = true) (body : Bytes) :
    unstuff c body = .error .malformedFrame ↔ c.delim ∈ body ∨ (∃ p, body = stuff c p ++ [c.esc])
      ∨ ∃ p x rest, body = stuff c p ++ c.esc :: x :: rest ∧ x ≠ c.escDelim ∧ x ≠ c.escEsc := by
  have hesc : c.esc ≠ c.delim := Ne.symm ((framingOk_iff c).1 hc).1
  constructor
  · intro h
    rcases unstuff_cases hc body with ⟨p, hp, -⟩ | ⟨-, ⟨p, rest, rfl⟩ | hlast | hbad⟩
    · simp [hp] at h
    · exact .inl (by simp)
    · exact .inr (.inl hlast)
    · exact .inr (.inr hbad)
  · rintro (hmem | ⟨p, rfl⟩ | ⟨p, x, rest, rfl, hx, hy⟩)
    · rcases unstuff_cases hc body with ⟨p, -, rfl⟩ | ⟨h, -⟩
      · exact absurd hmem (delim_not_mem_stuff hc p)
      · exact h
    · exact unstuff_stuff_append_error hc p (by simp [unstuff, hesc])
    · exact unstuff_stuff_append_error hc p (by simp [unstuff, hesc, hx, hy])

theorem unstuff_error_eq {c : Cfg} (hc : framingOk c = true) {body : Bytes} {e : ResultCode} (h : unstuff c body = .error e) :
    e = .malformedFrame := by
  rcases unstuff_cases hc body with ⟨p, hp, -⟩ | ⟨hp, -⟩ <;> simp [hp] at h
  exact h.symm

/-! ### The constraints on the parameters (R293) -/

/-- The type codes are pairwise distinct, and none of them is that of ACK (R9). -/
theorem typesOk_iff (c : Cfg) : typesOk c = true ↔
    0#4 ≠ c.ptVendor ∧ 0#4 ≠ c.ptReset ∧ 0#4 ≠ c.ptLinkControl ∧ c.ptVendor ≠ c.ptReset ∧ c.ptVendor ≠ c.ptLinkControl
      ∧ c.ptReset ≠ c.ptLinkControl := by
  simp [typesOk]; tauto

theorem patternsOk_iff (c : Cfg) : patternsOk c = true ↔
    c.syncPat ≠ c.syncRspPat ∧ c.syncPat ≠ c.configPat ∧ c.syncPat ≠ c.configRspPat ∧ c.syncRspPat ≠ c.configPat
      ∧ c.syncRspPat ≠ c.configRspPat ∧ c.configPat ≠ c.configRspPat := by
  simp [patternsOk]; tauto

theorem cfgValid_iff (c : Cfg) : cfgValid c = true ↔
    framingOk c = true ∧ typesOk c = true ∧ patternsOk c = true ∧ budgetOk c = true ∧ 1 ≤ c.tickMs
      ∧ durationOk c c.retxInterval = true ∧ durationOk c c.resetSettle = true ∧ durationOk c c.openTimeout = true := by
  simp [cfgValid, and_assoc]

theorem framingOk_of_cfgValid {c : Cfg} (h : cfgValid c = true) : framingOk c = true := ((cfgValid_iff c).1 h).1

/-! ### The rows of the kind table (R104) -/

theorem Pattern.bytes_inj {p q : Pattern} : p.bytes = q.bytes ↔ p = q := by
  cases p; cases q; simp [Pattern.bytes]

theorem Pattern.bytes_length (p : Pattern) : p.bytes.length = 2 := rfl

section
variable {c : Cfg} {d : Packet}

theorem kind_of_ack (htype : d.type = 0) : kind c d = .ack := if_pos htype

theorem kind_of_vendor (hc : cfgValid c = true) (htype : d.type = c.ptVendor) :
    kind c d = if d.reliable then .data else .dataUnrel := by
  obtain ⟨h1, -⟩ := (typesOk_iff c).1 ((cfgValid_iff c).1 hc).2.1
  cases hr : d.reliable <;> simp [kind, htype, hr, h1.symm]

theorem kind_of_reset (hc : cfgValid c = true) (htype : d.type = c.ptReset) : kind c d = .reset := by
  obtain ⟨-, h2, -, h4, -⟩ := (typesOk_iff c).1 ((cfgValid_iff c).1 hc).2.1
  simp [kind, htype, h2.symm, h4.symm]

/-- A type that is none of the four is K_OTHER whatever the payload. -/
theorem kind_of_reserved (h0 : d.type ≠ 0#4) (hv : d.type ≠ c.ptVendor) (hr : d.type ≠ c.ptReset) (hl : d.type ≠ c.ptLinkControl) :
    kind c d = .other := by
  simp [kind, h0, hv, hr, hl]

/-- Of a link-control packet the payload alone decides. -/
theorem kind_of_control (hc : cfgValid c = true) (htype : d.type = c.ptLinkControl) :
    kind c d = if d.payload = c.syncPat.bytes then .sync
      else if d.payload = c.syncRspPat.bytes then .syncRsp
      else if d.payload.length = 3 ∧ d.payload.take 2 = c.configPat.bytes then .config
      else if d.payload.length = 3 ∧ d.payload.take 2 = c.configRspPat.bytes then .configRsp
      else .other := by
  obtain ⟨-, -, h3, -, h5, h6⟩ := (typesOk_iff c).1 ((cfgValid_iff c).1 hc).2.1
  simp [kind, htype, h3.symm, h5.symm, h6.symm]

/-- Three bytes that begin with a pattern are the pattern and one byte. -/
theorem take_two_eq_pattern_iff (p : Bytes) (q : Pattern) : p.length = 3 ∧ p.take 2 = q.bytes ↔ ∃ x, p = q.bytes ++ [x] := by
  constructor
  · rintro ⟨hlen, htake⟩
    match p, hlen with
    | [a, b, x], _ => exact ⟨x, by simpa using congrArg (· ++ [x]) htake⟩
  · rintro ⟨x, rfl⟩
    exact ⟨rfl, rfl⟩

theorem Pattern.bytes_ne_append (p q : Pattern) (x : Byte) : p.bytes ≠ q.bytes ++ [x] := by
  intro h; have := congrArg List.length h; simp [Pattern.bytes_length] at this

theorem kind_of_sync (hc : cfgValid c = true) (htype : d.type = c.ptLinkControl) (hp : d.payload = c.syncPat.bytes) :
    kind c d = .sync := by
  rw [kind_of_control hc htype, if_pos hp]

theorem kind_of_syncRsp (hc : cfgValid c = true) (htype : d.type = c.ptLinkControl) (hp : d.payload = c.syncRspPat.bytes) :
    kind c d = .syncRsp := by
  obtain ⟨h1, -⟩ := (patternsOk_iff c).1 ((cfgValid_iff c).1 hc).2.2.1
  have hsync : d.payload ≠ c.syncPat.bytes := by rw [hp, ne_eq, Pattern.bytes_inj]; exact Ne.symm h1
  rw [kind_of_control hc htype, if_neg hsync, if_pos hp]

theorem kind_of_config {x : Byte} (hc : cfgValid c = true) (htype : d.type = c.ptLinkControl)
    (hp : d.payload = c.configPat.bytes ++ [x]) : kind c d = .config := by
  have hpat : ∀ q : Pattern, d.payload ≠ q.bytes := fun q h => Pattern.bytes_ne_append q _ x (h.symm.trans hp)
  rw [kind_of_control hc htype, if_neg (hpat _), if_neg (hpat _), if_pos ((take_two_eq_pattern_iff _ _).2 ⟨x, hp⟩)]

theorem kind_of_configRsp {x : Byte} (hc : cfgValid c = true) (htype : d.type = c.ptLinkControl)
    (hp : d.payload = c.configRspPat.bytes ++ [x]) : kind c d = .configRsp := by
  obtain ⟨-, -, -, -, -, h6⟩ := (patternsOk_iff c).1 ((cfgValid_iff c).1 hc).2.2.1
  have hpat : ∀ q : Pattern, d.payload ≠ q.bytes := fun q h => Pattern.bytes_ne_append q _ x (h.symm.trans hp)
  have hconfig : ¬ (d.payload.length = 3 ∧ d.payload.take 2 = c.configPat.bytes) := by
    rw [hp]
    exact fun h => h6 (Pattern.bytes_inj.1 h.2.symm)
  rw [kind_of_control hc htype, if_neg (hpat _), if_neg (hpat _), if_neg hconfig, if_pos ((take_two_eq_pattern_iff _ _).2 ⟨x, hp⟩)]

/-- A link-control packet with any other payload is K_OTHER. -/
theorem kind_of_unknown_control (hc : cfgValid c = true) (htype : d.type = c.ptLinkControl) (h1 : d.payload ≠ c.syncPat.bytes)
    (h2 : d.payload ≠ c.syncRspPat.bytes) (h3 : ∀ x, d.payload ≠ c.configPat.bytes ++ [x])
    (h4 : ∀ x, d.payload ≠ c.configRspPat.bytes ++ [x]) : kind c d = .other := by
  rw [kind_of_control hc htype, if_neg h1, if_neg h2, if_neg, if_neg] <;> rw [take_two_eq_pattern_iff] <;> rintro ⟨x, hx⟩
  · exact h4 x hx
  · exact h3 x hx

end

/-! ### A template through the two decoders (R105) -/

theorem decodeFrame_template {c : Cfg} (hc : framingOk c = true) (p : Bytes) (sq a : BitVec 3) (r : Bool) (t : BitVec 4) :
    decodeFrame c (template c p sq a r t) = .ok (buildPacket c p sq a r c.txIntegrity t) :=
  decodeFrame_encodeFrame hc _

/-- A transmitted frame decodes to the record of its row's fields. -/
theorem decode_template {c : Cfg} (hc : framingOk c = true) {p : Bytes} (hp : p.length ≤ 4095) (sq a : BitVec 3) (r : Bool)
    (t : BitVec 4) :
    (decodeFrame c (template c p sq a r t)).bind (decodePkt c) = .ok (recordOf c p sq a r c.txIntegrity t) := by
  rw [decodeFrame_template hc]
  exact decodePkt_buildPacket c p sq a r c.txIntegrity t hp

end Sys2Proof.Machine

namespace Sys2Proof.Safety

open Machine

/-- Settles O3: where the ends are delimiters, `unstuff` decides, and it stops at one of its three faults. -/
theorem frameDecodeFailures : Obligations.FrameDecodeFailures := by
  intro c f hc
  constructor
  · unfold decodeFrame
    split
    · next hends => simp only [true_iff]; tauto
    · next hends => rw [unstuff_error_iff hc]; tauto
  · intro e h
    unfold decodeFrame at h
    split at h
    · exact (Except.error.inj h).symm
    · exact unstuff_error_eq hc h

/-- Settles O7: the record determines the packet, and PKT.ENCODE builds the packet of the record's fields. -/
theorem packetDecodeAcceptsOnlyEncodings : Obligations.PacketDecodeAcceptsOnlyEncodings := by
  intro c k d h
  obtain ⟨hbuild, hrecord, hlen⟩ := buildPacket_of_decodePkt h
  refine ⟨(encodePkt_setWidth hlen ..).trans (congrArg PktEncoded.packet hbuild), ?_⟩
  rw [hrecord]
  exact (toNat_ofNat_length hlen).symm

/-- Settles O10: the record of a template is that of its row, and its type and payload are one row of the kind table. -/
theorem templatesDecodeToTheirKinds : Obligations.TemplatesDecodeToTheirKinds := by
  intro c hc sent
  have hf := framingOk_of_cfgValid hc
  have hsent : ∀ (p : Bytes) (sq a : BitVec 3) (r : Bool) (t : BitVec 4) (k : PacketKind), p.length ≤ 4095 →
      kind c (recordOf c p sq a r c.txIntegrity t) = k → sent (template c p sq a r t) p sq a r t k :=
    fun p sq a r t k hp hk => ⟨_, decode_template hf hp sq a r t, hk, rfl, rfl, rfl, rfl, rfl, rfl⟩
  have hpair : ∀ q : Pattern, q.bytes.length ≤ 4095 := fun q => by simp [Pattern.bytes]
  have htriple : ∀ q : Pattern, (q.bytes ++ [c.configField]).length ≤ 4095 := fun q => by simp [Pattern.bytes]
  exact ⟨hsent _ _ _ _ _ _ (by decide) (kind_of_reset hc rfl), hsent _ _ _ _ _ _ (hpair _) (kind_of_sync hc rfl rfl),
    hsent _ _ _ _ _ _ (hpair _) (kind_of_syncRsp hc rfl rfl), hsent _ _ _ _ _ _ (htriple _) (kind_of_config hc rfl rfl),
    hsent _ _ _ _ _ _ (htriple _) (kind_of_configRsp hc rfl rfl), fun a => hsent _ _ _ _ _ _ (by decide) (kind_of_ack rfl),
    fun p sq a hp => hsent _ _ _ _ _ _ hp (kind_of_vendor hc rfl)⟩

end Sys2Proof.Safety

namespace Sys2Proof

open Machine

/-! ### Packet records (R94, R99) -/

theorem Packet.lengthOk_iff (d : Packet) : d.lengthOk = true ↔ d.payload.length = d.payloadLength.toNat := by
  simp [Packet.lengthOk]

theorem Packet.isKind_iff (c : Cfg) (k : PacketKind) (d : Packet) :
    d.isKind c k = true ↔ kind c d = k ∧ d.payload.length = d.payloadLength.toNat := by
  simp [Packet.isKind, Packet.lengthOk_iff]

/-- The record of a packet's own header bytes and payload is the packet. -/
theorem packetOf_header (d : Packet) :
    packetOf (headerByte0 d.seq d.ack d.integrityChecked d.reliable) (headerByte1 d.type d.payloadLength)
      (headerByte2 d.payloadLength) d.headerChecksum d.payload = d := by
  obtain ⟨hseq, hack, hint, hrel⟩ := headerByte0_fields d.seq d.ack d.integrityChecked d.reliable
  simp only [packetOf, hseq, hack, hint, hrel, headerLength_header, headerByte1_type]

theorem readRecord_recordBytes {d : Packet} (h : d.payload.length = d.payloadLength.toNat) : readRecord (recordBytes d) = .ok d := by
  simp only [recordBytes, List.cons_append, List.nil_append, readRecord, headerLength_header, packetOf_header]
  exact if_neg (not_not.2 h)

/-- What is read as a record is the record's bytes, and the declared length is right. -/
theorem recordBytes_of_readRecord {bs : Bytes} {d : Packet} (h : readRecord bs = .ok d) :
    recordBytes d = bs ∧ d.payload.length = d.payloadLength.toNat := by
  match bs, h with
  | b0 :: b1 :: b2 :: b3 :: p, h =>
    simp only [readRecord] at h
    split at h
    · cases h
    · next hlen =>
      obtain rfl := Except.ok.inj h
      obtain ⟨hb1, hb2⟩ := headerBytes_of_length b1 b2
      have hbytes : recordBytes (packetOf b0 b1 b2 b3 p) = b0 :: b1 :: b2 :: b3 :: p := by
        simp only [recordBytes, packetOf, headerByte0_of_fields, hb1, hb2, List.cons_append, List.nil_append]
      exact ⟨hbytes, not_not.1 hlen⟩

theorem decodeKind_recordBytes {c : Cfg} {k : PacketKind} {d : Packet} (h : d.isKind c k = true) :
    decodeKind c (recordBytes d) = .ok (kindInstr c d) := by
  obtain ⟨-, hlen⟩ := (d.isKind_iff c k).1 h
  simp only [decodeKind, readRecord_recordBytes hlen]

/-- The operation of a packet's kind is encoded as the packet's record, and is well formed when the declared length is right. -/
theorem encode_kindInstr (c : Cfg) {d : Packet} (hlen : d.payload.length = d.payloadLength.toNat) :
    encode c (kindInstr c d) = ⟨.h5hdr, recordBytes d⟩ ∧ (kindInstr c d).wf c = true := by
  have hk : d.isKind c (kind c d) = true := (d.isKind_iff c _).2 ⟨rfl, hlen⟩
  unfold kindInstr
  split <;> next h => exact ⟨rfl, by rw [h] at hk; exact hk⟩

/-! ### Templates (R105) -/

/-- FRAME.DECODE and PKT.DECODE of a transmitted frame leave its record to be looked up. -/
theorem decodeTx_template {c : Cfg} (hc : framingOk c = true) {p : Bytes} (hp : p.length ≤ 4095) (sq a : BitVec 3) (r : Bool)
    (t : BitVec 4) : decodeTx c (template c p sq a r t) = templateInstr c (recordOf c p sq a r c.txIntegrity t) := by
  simp only [decodeTx, decodeFrame_template hc, decodePkt_buildPacket c p sq a r c.txIntegrity t hp]

/-- A frame whose record is `d` is the template of `d`'s fields. -/
theorem template_of_decode {c : Cfg} (hc : framingOk c = true) {bs k : Bytes} {d : Packet} (hf : decodeFrame c bs = .ok k)
    (hd : decodePkt c k = .ok d) (hi : d.integrityChecked = c.txIntegrity) :
    template c d.payload d.seq d.ack d.reliable d.type = bs ∧ d.payload.length ≤ 4095 := by
  obtain ⟨hbuild, -, hlen⟩ := buildPacket_of_decodePkt hd
  refine ⟨?_, hlen⟩
  rw [template, ← hi, hbuild, encodeFrame_of_decodeFrame_ok hc hf]

/-- The lookup of R105: an operation is found under the fields of its own row. -/
theorem encode_templateInstr {c : Cfg} {d : Packet} {i : Instr} (hlen : d.payload.length ≤ 4095) (h : templateInstr c d = .ok i) :
    encode c i = ⟨.txframe, template c d.payload d.seq d.ack d.reliable d.type⟩ ∧ i.wf c = true
      ∧ d.integrityChecked = c.txIntegrity := by
  simp only [templateInstr, ite_eq_iff, reduceCtorEq, and_false, false_or, or_false, ne_eq, not_or, not_not, Bool.not_eq_true,
    Except.ok.injEq] at h
  rcases h with ⟨hi, ⟨⟨htype, hrel⟩, rfl⟩ | ⟨-, ⟨hrel, hseq⟩, ⟨⟨htype, hp⟩, rfl⟩ | ⟨-, hack, hrest⟩⟩⟩
  · exact ⟨by rw [htype, hrel]; rfl, decide_eq_true hlen, hi⟩
  · exact ⟨by rw [htype, hrel, hseq, hp]; rfl, rfl, hi⟩
  · rw [hrel, hseq, hack]
    rcases hrest with ⟨⟨htype, hp⟩, rfl⟩ | ⟨-, htype, ⟨hp, rfl⟩ | ⟨-, ⟨hp, rfl⟩ | ⟨-, ⟨hp, rfl⟩ | ⟨-, hp, rfl⟩⟩⟩⟩ <;>
      exact ⟨by rw [htype, hp]; rfl, rfl, hi⟩

theorem decodeTx_encode {c : Cfg} (hc : cfgValid c = true) :
    decodeTx c (resetFrameOf c) = .ok .resetFrame ∧ decodeTx c (syncFrameOf c) = .ok .syncFrame
      ∧ decodeTx c (syncRspFrameOf c) = .ok .syncRspFrame ∧ decodeTx c (configFrameOf c) = .ok .configFrame
      ∧ decodeTx c (configRspFrameOf c) = .ok .configRspFrame ∧ (∀ a, decodeTx c (ackFrameOf c a) = .ok (.ackFrame a))
      ∧ ∀ p sq a, p.length ≤ 4095 → decodeTx c (dataFrameOf c p sq a) = .ok (.dataFrame p sq a) := by
  have hf := framingOk_of_cfgValid hc
  obtain ⟨-, htypes, hpatterns, -⟩ := (cfgValid_iff c).1 hc
  obtain ⟨h1, h2, h3, h4, h5, h6⟩ := (typesOk_iff c).1 htypes
  obtain ⟨g1, g2, g3, g4, g5, g6⟩ := (patternsOk_iff c).1 hpatterns
  have hne : ∀ (p q : Pattern) (x : Byte), p.bytes ++ [x] ≠ q.bytes := fun p q x => (Pattern.bytes_ne_append q p x).symm
  refine ⟨?_, ?_, ?_, ?_, ?_, fun a => ?_, fun p sq a hp => ?_⟩
  · rw [resetFrameOf, decodeTx_template hf (by simp)]
    simp [templateInstr, recordOf, h2.symm, h4.symm]
  · rw [syncFrameOf, decodeTx_template hf (by simp [Pattern.bytes])]
    simp [templateInstr, recordOf, h3.symm, h5.symm, h6.symm]
  · rw [syncRspFrameOf, decodeTx_template hf (by simp [Pattern.bytes])]
    simp [templateInstr, recordOf, h3.symm, h5.symm, h6.symm, Pattern.bytes_inj, g1.symm]
  · rw [configFrameOf, decodeTx_template hf (by simp [Pattern.bytes])]
    simp [templateInstr, recordOf, h3.symm, h5.symm, h6.symm, hne]
  · rw [configRspFrameOf, decodeTx_template hf (by simp [Pattern.bytes])]
    simp [templateInstr, recordOf, h3.symm, h5.symm, h6.symm, hne, Pattern.bytes_inj, g6.symm]
  · rw [ackFrameOf, decodeTx_template hf (by simp)]
    simp [templateInstr, recordOf, h1]
  · rw [dataFrameOf, decodeTx_template hf hp]
    simp [templateInstr, recordOf]

/-! ### Tokens (R91, R107) -/

/-- The token at the head of a byte sequence is encoded as the bytes it takes, and is well formed. -/
theorem encode_of_decodeToken {c : Cfg} {bs rest : Bytes} {i : Instr} (h : decodeToken c bs = .ok (i, rest)) :
    bs = (encode c i).bytes ++ rest ∧ (encode c i).format = .slip ∧ i.wf c = true := by
  match bs with
  | [] => cases h
  | b :: bs =>
    simp only [decodeToken] at h
    split at h
    · next hb => cases h; exact ⟨by rw [hb]; rfl, rfl, rfl⟩
    · next hb =>
      split at h
      · next hesc =>
        match bs with
        | [] => cases h; exact ⟨by rw [hesc]; rfl, rfl, rfl⟩
        | x :: bs =>
          dsimp only at h
          split at h
          · next hx => cases h; exact ⟨by rw [hesc, hx]; rfl, rfl, rfl⟩
          · next hx =>
            split at h
            · next hy => cases h; exact ⟨by rw [hesc, hy]; rfl, rfl, rfl⟩
            · next hy => cases h; exact ⟨by rw [hesc]; rfl, rfl, by simp [Instr.wf, hx, hy]⟩
      · next hesc => cases h; exact ⟨rfl, rfl, by simp [Instr.wf, hb, hesc]⟩

theorem decodeSlip_of_token {c : Cfg} {bs : Bytes} {i : Instr} (h : decodeToken c bs = .ok (i, [])) : decodeSlip c bs = .ok i := by
  simp only [decodeSlip, h]

theorem decodeToken_of_decodeSlip {c : Cfg} {bs : Bytes} {i : Instr} (h : decodeSlip c bs = .ok i) :
    decodeToken c bs = .ok (i, []) := by
  unfold decodeSlip at h
  split at h
  · next htoken => cases h; exact htoken
  · cases h
  · cases h

/-! ### The operands of FN, TI and EVT (log 12) -/

theorem flagByte_bits (reliable integrity : Bool) :
    (flagByte reliable integrity).toNat < 4 ∧ (flagByte reliable integrity).getLsbD 0 = reliable
      ∧ (flagByte reliable integrity).getLsbD 1 = integrity := by
  revert reliable integrity; decide

theorem flagByte_of_bits {b : Byte} (h : b.toNat < 4) : flagByte (b.getLsbD 0) (b.getLsbD 1) = b := by
  revert b; decide

theorem bitByte_bit (b : Bool) : (bitByte b).toNat < 2 ∧ (bitByte b).getLsbD 0 = b := by
  revert b; decide

theorem bitByte_of_bit {b : Byte} (h : b.toNat < 2) : bitByte (b.getLsbD 0) = b := by
  revert b; decide

/-- A number of `n` bits in a byte stays below `2 ^ n` and is read back. -/
theorem setWidth_byte {n : Nat} (x : BitVec n) (hn : n ≤ 8) :
    (x.setWidth 8).toNat < 2 ^ n ∧ (x.setWidth 8).setWidth n = x := by
  constructor
  · rw [BitVec.toNat_setWidth_of_le hn]; exact x.isLt
  · rw [BitVec.setWidth_setWidth_of_le x hn, BitVec.setWidth_eq]

/-- A byte below `2 ^ n` is its own `n` low bits. -/
theorem byte_setWidth {n : Nat} {b : Byte} (hn : n ≤ 8) (h : b.toNat < 2 ^ n) : (b.setWidth n).setWidth 8 = b := by
  apply BitVec.eq_of_toNat_eq
  rw [BitVec.toNat_setWidth_of_le hn, BitVec.toNat_setWidth, Nat.mod_eq_of_lt h]

theorem statusBytes_append (c3 c2 c1 c0 : Byte) : statusBytes (c3 ++ c2 ++ c1 ++ c0) = [c0, c1, c2, c3] := by
  have above : ∀ {n : Nat} (x : BitVec n) (y : Byte) (i : Nat), (x ++ y).extractLsb' (i + 8) 8 = x.extractLsb' i 8 :=
    fun x y i => BitVec.extractLsb'_append_eq_of_le (Nat.le_add_left 8 i)
  simp only [statusBytes, List.cons.injEq, and_true]
  exact ⟨BitVec.extractLsb'_append_eq_right, (above _ _ 0).trans BitVec.extractLsb'_append_eq_right,
    (above _ _ 8).trans ((above _ _ 0).trans BitVec.extractLsb'_append_eq_right),
    (above _ _ 16).trans ((above _ _ 8).trans BitVec.extractLsb'_append_eq_left)⟩

theorem append_statusBytes (code : BitVec 32) :
    code.extractLsb' 24 8 ++ code.extractLsb' 16 8 ++ code.extractLsb' 8 8 ++ code.extractLsb' 0 8 = code := by
  rw [BitVec.extractLsb'_append_extractLsb'_eq_extractLsb' (by decide), BitVec.extractLsb'_append_extractLsb'_eq_extractLsb' (by decide),
    BitVec.extractLsb'_append_extractLsb'_eq_extractLsb' (by decide)]
  exact BitVec.extractLsb'_eq_self

/-! ### What each format decodes is encoded back -/

section
variable {c : Cfg} {bs : Bytes} {i : Instr}

theorem encode_of_noOperand {op : Instr} (h : noOperand op bs = .ok i) : bs = [] ∧ i = op := by
  unfold noOperand at h
  split at h
  · next hbs => exact ⟨hbs, (Except.ok.inj h).symm⟩
  · cases h

theorem encode_of_decodeSlip (h : decodeSlip c bs = .ok i) : encode c i = ⟨.slip, bs⟩ ∧ i.wf c = true := by
  obtain ⟨hbytes, hformat, hwf⟩ := encode_of_decodeToken (decodeToken_of_decodeSlip h)
  rw [List.append_nil] at hbytes
  exact ⟨by rw [hbytes, ← hformat], hwf⟩

theorem encode_of_decodeKind (h : decodeKind c bs = .ok i) : encode c i = ⟨.h5hdr, bs⟩ ∧ i.wf c = true := by
  unfold decodeKind at h
  split at h
  · next d hd =>
    obtain ⟨hbytes, hlen⟩ := recordBytes_of_readRecord hd
    obtain rfl := Except.ok.inj h
    rw [← hbytes]
    exact encode_kindInstr c hlen
  · cases h

theorem encode_of_decodeTx (hc : framingOk c = true) (h : decodeTx c bs = .ok i) : encode c i = ⟨.txframe, bs⟩ ∧ i.wf c = true := by
  unfold decodeTx at h
  split at h
  · cases h
  · next k hf =>
    split at h
    · cases h
    · next d hd =>
      obtain ⟨-, -, hlen⟩ := buildPacket_of_decodePkt hd
      obtain ⟨hencode, hwf, hi⟩ := encode_templateInstr hlen h
      exact ⟨by rw [hencode, (template_of_decode hc hf hd hi).1], hwf⟩

theorem encode_of_decodeFn (h : decodeFn bs = .ok i) : encode c i = ⟨.fn, bs⟩ ∧ i.wf c = true := by
  unfold decodeFn at h
  split at h
  · cases h
  · next f rest =>
    split_ifs at h with h1 h2 h3 h4 h5
    · cases h; exact ⟨by rw [h1]; rfl, rfl⟩
    · cases h; exact ⟨by rw [h2]; rfl, rfl⟩
    · split at h
      · next seq ack flags type p =>
        split at h
        · next hrange =>
          cases h
          refine ⟨?_, rfl⟩
          rw [h3, encode, flagByte_of_bits hrange.1, byte_setWidth (by decide) hrange.2]
        · cases h
      · cases h
    · cases h; exact ⟨by rw [h4]; rfl, rfl⟩
    · split at h
      · next n =>
        split at h
        · next hrange =>
          cases h
          exact ⟨by rw [h5, encode, byte_setWidth (by decide) hrange], rfl⟩
        · cases h
      · cases h

theorem encode_of_decodeHc (h : decodeHc bs = .ok i) : encode c i = ⟨.hc, bs⟩ ∧ i.wf c = true := by
  unfold decodeHc at h
  split at h
  · cases h
  · next cmd rest =>
    split_ifs at h with h0 h1 h2 h3
    · obtain ⟨rfl, rfl⟩ := encode_of_noOperand h; exact ⟨by rw [h1]; rfl, rfl⟩
    · obtain ⟨rfl, rfl⟩ := encode_of_noOperand h; exact ⟨by rw [h2]; rfl, rfl⟩
    · cases h; exact ⟨by rw [h3]; rfl, rfl⟩

theorem encode_of_decodeTi (h : decodeTi bs = .ok i) : encode c i = ⟨.ti, bs⟩ ∧ i.wf c = true := by
  unfold decodeTi at h
  split at h
  · cases h
  · next ind rest =>
    split_ifs at h with h0 h1 h2 h3
    · cases h; exact ⟨by rw [h1]; rfl, rfl⟩
    · split at h
      · next c0 c1 c2 c3 m => cases h; exact ⟨by rw [h2, encode, statusBytes_append]; rfl, rfl⟩
      · cases h
    · split at h
      · next sev m => cases h; exact ⟨by rw [h3]; rfl, rfl⟩
      · cases h

theorem encode_of_plainEvent {n : Byte} (h : plainEvent n = some i) : encode c i = ⟨.evt, [n]⟩ ∧ i.wf c = true := by
  simp only [plainEvent, ite_eq_iff, Option.some.injEq, reduceCtorEq, and_false, or_false] at h
  iterate 20
    rcases h with ⟨rfl, rfl⟩ | ⟨-, h⟩
    · exact ⟨rfl, rfl⟩
  obtain ⟨rfl, rfl⟩ := h
  exact ⟨rfl, rfl⟩

theorem encode_of_decodeRxFrame (h : decodeRxFrame c bs = .ok i) : encode c i = ⟨.evt, 2 :: bs⟩ ∧ i.wf c = true := by
  unfold decodeRxFrame at h
  split at h
  · cases h
  · next o chunk =>
    split at h
    · next hok => cases h; exact ⟨by rw [encode, bitByte_of_bit hok.1], hok.2⟩
    · cases h

/-- The handler's operand is a record of its kind. -/
theorem decodeHandler_ok {k : PacketKind} {make : Packet → Instr} (h : decodeHandler c k make bs = .ok i) :
    ∃ d, i = make d ∧ recordBytes d = bs ∧ d.isKind c k = true := by
  unfold decodeHandler at h
  split at h
  · next d hd =>
    split at h
    · next hk =>
      obtain ⟨hbytes, hlen⟩ := recordBytes_of_readRecord hd
      exact ⟨d, (Except.ok.inj h).symm, hbytes, (d.isKind_iff c k).2 ⟨hk, hlen⟩⟩
    · cases h
  · cases h

theorem encode_of_decodeEvt (h : decodeEvt c bs = .ok i) : encode c i = ⟨.evt, bs⟩ ∧ i.wf c = true := by
  unfold decodeEvt at h
  split at h
  · cases h
  · next n rest =>
    split_ifs at h with h2 h8 h9
    · rw [h2]; exact encode_of_decodeRxFrame h
    · obtain ⟨d, rfl, rfl, hwf⟩ := decodeHandler_ok h
      exact ⟨by rw [h8]; rfl, hwf⟩
    · obtain ⟨d, rfl, rfl, hwf⟩ := decodeHandler_ok h
      exact ⟨by rw [h9]; rfl, hwf⟩
    · split at h
      · next op hop =>
        obtain ⟨rfl, rfl⟩ := encode_of_noOperand h
        exact encode_of_plainEvent hop
      · cases h

end

/-! ### What is encoded is decoded back -/

section
variable {c : Cfg}

theorem decodeSlip_encode (hc : framingOk c = true) : decodeSlip c [c.delim] = .ok .delim
    ∧ decodeSlip c [c.esc, c.escDelim] = .ok .escDelimToken ∧ decodeSlip c [c.esc, c.escEsc] = .ok .escEscToken
    ∧ decodeSlip c [c.esc] = .ok (.escInvalid none) ∧ (∀ b, b ≠ c.delim → b ≠ c.esc → decodeSlip c [b] = .ok (.literal b))
    ∧ ∀ x, x ≠ c.escDelim → x ≠ c.escEsc → decodeSlip c [c.esc, x] = .ok (.escInvalid (some x)) := by
  obtain ⟨hesc, -, -, -, -, hsubst⟩ := (framingOk_iff c).1 hc
  refine ⟨?_, ?_, ?_, ?_, fun b hd he => ?_, fun x hx hy => ?_⟩ <;> apply decodeSlip_of_token <;>
    simp [decodeToken, hesc.symm, hsubst.symm, *]

theorem decodeFn_pktEncode (p : Bytes) (seq ack : Byte) (reliable integrity : Bool) (type : BitVec 4) :
    decodeFn (3 :: seq :: ack :: flagByte reliable integrity :: type.setWidth 8 :: p)
      = .ok (.pktEncode p seq ack reliable integrity type) := by
  obtain ⟨hflags, h0, h1⟩ := flagByte_bits reliable integrity
  obtain ⟨htype, hback⟩ := setWidth_byte type (by decide)
  simp only [decodeFn]
  rw [if_neg (by decide), if_neg (by decide), if_pos trivial, if_pos ⟨hflags, htype⟩, h0, h1, hback]

theorem decodeFn_seqInc (n : BitVec 3) : decodeFn [5, n.setWidth 8] = .ok (.seqInc n) := by
  obtain ⟨hn, hback⟩ : (n.setWidth 8).toNat < 8 ∧ (n.setWidth 8).setWidth 3 = n := setWidth_byte n (by decide)
  simp only [decodeFn]
  rw [if_neg (by decide), if_neg (by decide), if_neg (by decide), if_neg (by decide), if_pos trivial, if_pos hn, hback]

theorem decodeTi_tStatus (code : BitVec 32) (m : Bytes) :
    decodeTi (codeTStatus :: (statusBytes code ++ m)) = .ok (.tStatus code m) := by
  have hread : decodeTi (codeTStatus :: (statusBytes code ++ m)) = .ok (.tStatus
      (code.extractLsb' 24 8 ++ code.extractLsb' 16 8 ++ code.extractLsb' 8 8 ++ code.extractLsb' 0 8) m) := rfl
  rw [hread, append_statusBytes]

theorem decodeRxFrame_encode {chunk : Bytes} {ovf : Bool} (h : chunkOk c chunk ovf = true) :
    decodeRxFrame c (bitByte ovf :: chunk) = .ok (.rxFrame chunk ovf) := by
  obtain ⟨hlt, hbit⟩ := bitByte_bit ovf
  simp only [decodeRxFrame, hbit]
  exact if_pos ⟨hlt, h⟩

theorem decodeHandler_encode {k : PacketKind} {d : Packet} (make : Packet → Instr) (h : d.isKind c k = true) :
    decodeHandler c k make (recordBytes d) = .ok (make d) := by
  obtain ⟨hkind, hlen⟩ := (d.isKind_iff c k).1 h
  simp only [decodeHandler, readRecord_recordBytes hlen]
  exact if_pos hkind

theorem decodeKind_encode {k : PacketKind} {d : Packet} (h : d.isKind c k = true) {i : Instr}
    (hi : kind c d = k → kindInstr c d = i) : decodeKind c (recordBytes d) = .ok i := by
  rw [decodeKind_recordBytes h, hi ((d.isKind_iff c k).1 h).1]

end

end Sys2Proof

namespace Sys2Proof.Safety

open Machine

/-- Settles O11: each format's decoder reads back the bytes its rows are written in. -/
theorem decodeOfEncode : Obligations.DecodeOfEncode := by
  intro c i hc hwf
  obtain ⟨hreset, hsync, hsyncRsp, hconfig, hconfigRsp, hack, hdata⟩ := decodeTx_encode hc
  obtain ⟨hdelim, hescDelim, hescEsc, hescEnd, hliteral, hescBad⟩ := decodeSlip_encode (framingOk_of_cfgValid hc)
  cases i with
  | delim => exact hdelim
  | escDelimToken => exact hescDelim
  | escEscToken => exact hescEsc
  | literal b =>
    obtain ⟨hd, he⟩ : b ≠ c.delim ∧ b ≠ c.esc := by simpa [Instr.wf] using hwf
    exact hliteral b hd he
  | escInvalid x =>
    cases x with
    | none => exact hescEnd
    | some x =>
      obtain ⟨hx, hy⟩ : x ≠ c.escDelim ∧ x ≠ c.escEsc := by simpa [Instr.wf] using hwf
      exact hescBad x hx hy
  | kAck d | kData d | kDataUnrel d | kReset d | kSync d | kSyncRsp d | kConfig d | kConfigRsp d | kOther d =>
    exact decodeKind_encode hwf fun hk => by rw [kindInstr, hk]
  | resetFrame => exact hreset
  | syncFrame => exact hsync
  | syncRspFrame => exact hsyncRsp
  | configFrame => exact hconfig
  | configRspFrame => exact hconfigRsp
  | ackFrame a => exact hack a
  | dataFrame p sq a => exact hdata p sq a (of_decide_eq_true hwf)
  | pktEncode p seq ack reliable integrity type => exact decodeFn_pktEncode p seq ack reliable integrity type
  | seqInc n => exact decodeFn_seqInc n
  | tStatus code m => exact decodeTi_tStatus code m
  | rxFrame chunk ovf => exact decodeRxFrame_encode hwf
  | rxAck d => exact decodeHandler_encode .rxAck hwf
  | rxData d => exact decodeHandler_encode .rxData hwf
  | _ => rfl

/-- Settles O12: what a format's decoder answers is encoded in that format, as the bytes it was read from. -/
theorem encodeOfDecode : Obligations.EncodeOfDecode := by
  rintro c ⟨format, bs⟩ i hc h
  cases format with
  | slip => exact encode_of_decodeSlip h
  | h5hdr => exact encode_of_decodeKind h
  | txframe => exact encode_of_decodeTx (framingOk_of_cfgValid hc) h
  | fn => exact encode_of_decodeFn h
  | hc => exact encode_of_decodeHc h
  | ti => exact encode_of_decodeTi h
  | evt => exact encode_of_decodeEvt h

end Sys2Proof.Safety

namespace Sys2Proof.Machine

open Safety

/-! ### What one operation can do, said once for every operation -/

/-- The host commands on HC (R108). -/
def isHost (i : Instr) : Prop := i = .hostOpen ∨ i = .hostClose ∨ ∃ p, i = .hostSend p

/-- The functions on the ports FE, FD, PE, PD, and SEQ.INC (R21). -/
def isPort (i : Instr) : Prop :=
  (∃ p, i = .frameEncode p) ∨ (∃ f, i = .frameDecode f) ∨ (∃ p q a r g y, i = .pktEncode p q a r g y)
    ∨ (∃ k, i = .pktDecode k) ∨ ∃ n, i = .seqInc n

/-- `Effect s i t`: `t` is what the operation `i` makes of `s`. Operations that share an update share a constructor: a token and
T_DATA fill the stream, every packet kind and handler is a cell of the dispatch table, every template an `emit`, every transition
an `enter`. -/
inductive Effect (s : State) : Instr → State → Prop
  | reset : Effect s .hwReset s.hardwareReset
  | opened (hclosed : s.linkOpen = false) : Effect s .hostOpen s.loadOpen.openTransport
  | openRefused (hopen : s.linkOpen = true) : Effect s .hostOpen (s.put (.hr .opn .invalidState))
  | closing (hopen : s.linkOpen = true) :
      Effect s .hostClose { s with exit := { s.exit with close := true }, closePending := true }
  | closeRefused : Effect s .hostClose (s.put (.hr .close .invalidState))
  | stalled (p : Bytes) (hbusy : s.txBusy = true) : Effect s (.hostSend p) { s with hcWait := s.hcWait ++ [p] }
  | presented (p : Bytes) (hidle : s.txBusy = false) : Effect s (.hostSend p) (s.acceptSend p)
  | answered {i : Instr} (r : FnResult) (hi : isPort i) : Effect s i (s.put (.fn r))
  | faulted (p : Bytes) (seq : Byte) (reliable integrity : Bool) :
      Effect s (.pktEncode p seq 0xFF reliable integrity 0) { s with flt := true }
  | data (bs : Bytes) : Effect s (.tData bs) (s.indicate bs)
  | status (code : BitVec 32) (m : Bytes) : Effect s (.tStatus code m)
      { s with exit := { s.exit with ioError := s.exit.ioError || (s.linkOpen && isIoError s.cfg code) } }
  | logged (sev : Byte) (m : Bytes) : Effect s (.tLog sev m) (s.put (.up (.log (.transport sev m))))
  | token {i : Instr} (bs : Bytes) (hi : isStep i = false) : Effect s i (s.receive bs)
  | byte {b : Byte} {rest : Bytes} (hb : s.inbound = b :: rest) : Effect s .rxByte ({ s with inbound := rest }.consume b)
  | chunk (bs : Bytes) (ovf : Bool) (hr : s.receiving = true) : Effect s (.rxFrame bs ovf) (s.rxFrame bs ovf)
  | packet {i : Instr} (k : PacketKind) (d : Packet) (hi : isStep i = false) : Effect s i (s.dispatch k d)
  | frame {i : Instr} (f : Bytes) (hi : isStep i = false) (hopen : s.linkOpen = true) : Effect s i (s.emit f)
  | row {i : Instr} {t : State} (hi : i ∈ ownSteps) (h : takesRow s t) : Effect s i t
  | closed (h : s.canCloseDone = true) : Effect s .closeDone s.closeLink
  | aborted (r : ResultCode) (h : s.canTxAbort = true) : Effect s .txAbort (s.endSend r)
  | smDue (h : s.tSm.expired = true) : Effect s .tSmExpire (s.disarm .sm).smExpired
  | txDue (h : s.tTx.expired = true) : Effect s .tTxExpire (s.disarm .tx).txExpired
  | openDue (h : s.tOpen.expired = true) : Effect s .tOpenExpire (s.disarm .opn).openExpired
  | tick : Effect s .tick { s with tSm := s.tSm.tick, tTx := s.tTx.tick, tOpen := s.tOpen.tick }
  | idle {i : Instr} (hi : isStep i = false ∨ i ∈ ownSteps) : Effect s i s

section
variable {s t u : State} {i : Instr}

/-- A guarded step of the block's own agents stutters or fires. -/
theorem Effect.of_guarded {g : Bool} (hi : isStep i = false ∨ i ∈ ownSteps) (h : s.guarded g u = .next t)
    (hu : g = true → Effect s i u) : Effect s i t := by
  rcases State.guarded_next h with ⟨hg, rfl⟩ | ⟨-, rfl⟩
  · exact hu hg
  · exact .idle hi

/-- A guarded step of the sequencer stutters or takes a row of the table. -/
theorem Effect.of_guarded_row {g : Bool} (hi : i ∈ ownSteps) (h : s.guarded g u = .next t) (hu : g = true → takesRow s u) :
    Effect s i t :=
  .of_guarded (.inr hi) h fun hg => .row hi (hu hg)

/-- A template is an `emit` on an open link, and nothing on a closed one (R68). -/
theorem Effect.of_emitIfOpen (f : Bytes) (hi : isStep i = false) : Effect s i (s.emitIfOpen f) := by
  unfold State.emitIfOpen
  split
  · next hopen => exact .frame f hi hopen
  · exact .idle (.inl hi)

theorem Effect.of_putEncoded (p : Bytes) (seq ack : Byte) (reliable integrity : Bool) (type : BitVec 4) :
    Effect s (.pktEncode p seq ack reliable integrity type)
      (s.putEncoded (encodePkt s.cfg p seq ack reliable integrity type)) := by
  have hport : isPort (.pktEncode p seq ack reliable integrity type) := .inr (.inr (.inl ⟨_, _, _, _, _, _, rfl⟩))
  by_cases hack : type = 0 ∧ ack = 0xFF
  · obtain ⟨rfl, rfl⟩ := hack
    rw [encodePkt_ackWithoutNumber ⟨rfl, rfl⟩]
    exact .faulted p seq reliable integrity
  · by_cases hp : p.length ≤ 4095
    · rw [encodePkt_packet hack hp]
      exact .answered _ hport
    · rw [encodePkt_invalidLength hack (not_le.1 hp)]
      exact .answered _ hport

theorem Effect.of_next (h : (Host.Outcome.next u : Host.Outcome State Fault Refusal) = .next t) (hu : Effect s i u) : Effect s i t := by
  cases h
  exact hu

/-- A cell of the dispatch table under another name: a handler is the row of its kind (R140). -/
theorem Effect.of_cell {u : State} (k : PacketKind) (d : Packet) (hi : isStep i = false) (hu : s.dispatch k d = u) :
    Effect s i u :=
  hu ▸ .packet k d hi

/-- A packet record to fill the operand that a row of the dispatch table does not read. -/
def anyPacket : Packet := packetOf 0 0 0 0 []

/-- Every operation has an effect of the list. -/
theorem exec_effect (h : exec i s = .next t) : Effect s i t := by
  cases i with
  | hwReset => exact .of_next h .reset
  | hostOpen =>
    cases hopen : s.linkOpen with
    | true =>
      rw [exec_hostOpen_of_linkOpen hopen] at h
      exact .of_next h (.openRefused hopen)
    | false =>
      rw [exec_hostOpen_of_closed hopen] at h
      exact .of_next h (.opened hopen)
  | hostClose =>
    refine .of_next h ?_
    split
    · exact .closeRefused
    · next hgoes =>
      refine .closing ?_
      cases hopen : s.linkOpen <;> simp_all
  | hostSend p =>
    cases hbusy : s.txBusy with
    | true =>
      rw [exec_hostSend_of_busy hbusy] at h
      exact .of_next h (.stalled p hbusy)
    | false =>
      rw [exec_hostSend_of_idle hbusy] at h
      exact .of_next h (.presented p hbusy)
  | frameEncode p => exact .of_next h (.answered _ (.inl ⟨p, rfl⟩))
  | frameDecode f => exact .of_next h (.answered _ (.inr (.inl ⟨f, rfl⟩)))
  | pktEncode p seq ack reliable integrity type => exact .of_next h (.of_putEncoded p seq ack reliable integrity type)
  | pktDecode k => exact .of_next h (.answered _ (.inr (.inr (.inr (.inl ⟨k, rfl⟩)))))
  | seqInc n => exact .of_next h (.answered _ (.inr (.inr (.inr (.inr ⟨n, rfl⟩)))))
  | tData bs => exact .of_next h (.data bs)
  | tStatus code m => exact .of_next h (.status code m)
  | tLog sev m => exact .of_next h (.logged sev m)
  | delim | escDelimToken | escEscToken | literal _ | escInvalid _ => exact .of_next h (.token _ rfl)
  | rxByte =>
    simp only [exec, execRxByte] at h
    split at h
    · exact .of_next h (.idle (.inr (by decide)))
    · next hb => exact .of_next h (.byte hb)
  | rxFrame chunk ovf => exact .of_guarded (.inl rfl) h fun hr => .chunk chunk ovf hr
  | kAck d => exact .of_next h (.packet .ack d rfl)
  | kData d => exact .of_next h (.packet .data d rfl)
  | kDataUnrel d => exact .of_next h (.packet .dataUnrel d rfl)
  | kReset d => exact .of_next h (.packet .reset d rfl)
  | kSync d => exact .of_next h (.packet .sync d rfl)
  | kSyncRsp d => exact .of_next h (.packet .syncRsp d rfl)
  | kConfig d => exact .of_next h (.packet .config d rfl)
  | kConfigRsp d => exact .of_next h (.packet .configRsp d rfl)
  | kOther d => exact .of_next h (.packet .other d rfl)
  | rxSyncRsp =>
    refine .of_guarded (.inl rfl) h fun hg => .of_cell .syncRsp anyPacket rfl ?_
    exact State.dispatchSyncRsp_notes (by simpa using hg)
  | rxSync =>
    refine .of_guarded (.inl rfl) h fun hg => .of_cell .sync anyPacket rfl ?_
    exact State.dispatchSync_answers (by simpa using hg)
  | rxSyncActive =>
    refine .of_guarded (.inl rfl) h fun hg => .of_cell .sync anyPacket rfl ?_
    exact State.dispatchSync_active (by simpa using hg)
  | rxConfigRsp =>
    refine .of_guarded (.inl rfl) h fun hg => .of_cell .configRsp anyPacket rfl ?_
    exact State.dispatchConfigRsp_notes (by simpa using hg)
  | rxConfig =>
    refine .of_guarded (.inl rfl) h fun hg => .of_cell .config anyPacket rfl ?_
    exact State.dispatchConfig_answers (by simpa using hg)
  | rxAck d =>
    refine .of_guarded (.inl rfl) h fun hg => .of_cell .ack d rfl ?_
    simp only [Bool.and_eq_true, beq_iff_eq] at hg
    simp [State.dispatch, State.dispatchAck, hg.2]
  | rxData d =>
    refine .of_guarded (.inl rfl) h fun hg => .of_cell .data d rfl ?_
    simp only [Bool.and_eq_true, beq_iff_eq] at hg
    simp [State.dispatch, State.dispatchData, hg.2]
  | resetFrame | syncFrame | syncRspFrame | configFrame | configRspFrame | ackFrame _ =>
    exact .of_next h (.of_emitIfOpen _ rfl)
  | dataFrame p sq a =>
    refine .of_next h ?_
    split
    · exact .of_emitIfOpen _ rfl
    · exact .idle (.inl rfl)
  | seqAbort => exact .of_guarded_row (by decide) h takesRow_of_canSeqAbort
  | seqStart => exact .of_guarded_row (by decide) h takesRow_of_canSeqStart
  | seqReset => exact .of_guarded_row (by decide) h takesRow_of_canSeqReset
  | seqUninitOk => exact .of_guarded_row (by decide) h takesRow_of_canSeqUninitOk
  | seqUninitNr => exact .of_guarded_row (by decide) h takesRow_of_canSeqUninitNr
  | seqInitOk => exact .of_guarded_row (by decide) h takesRow_of_canSeqInitOk
  | seqInitNr => exact .of_guarded_row (by decide) h takesRow_of_canSeqInitNr
  | seqActive => exact .of_guarded_row (by decide) h takesRow_of_canSeqActive
  | closeDone => exact .of_guarded (.inr (by decide)) h .closed
  | txAbort =>
    refine .of_guarded (.inr (by decide)) h fun hg => ?_
    split <;> exact .aborted _ hg
  | tSmExpire => exact .of_guarded (.inr (by decide)) h .smDue
  | tTxExpire => exact .of_guarded (.inr (by decide)) h .txDue
  | tOpenExpire => exact .of_guarded (.inr (by decide)) h .openDue
  | tick => exact .of_guarded (.inr (by decide)) h fun _ => .tick

end

end Sys2Proof.Machine

namespace Sys2Proof.Machine

open Safety

/-! ### What the timers and a presented SEND can do -/

section
variable (s : State)

/-- An attempt of the handshake whose wait is over: nothing, the end of the budget, or one more transmission (R186, R192). -/
theorem State.retryHandshake_cases (f : Bytes) :
    s.retryHandshake f = s
      ∨ s.retryHandshake f = { s with exit := { s.exit with retryExhausted := true } }
      ∨ (s.retryCnt ≠ 0 ∧ s.retryHandshake f = { s.emit f with retryCnt := s.retryCnt - 1 }.arm .sm s.cfg.retxInterval) := by
  unfold State.retryHandshake
  split
  · exact .inl rfl
  · split
    · next hleft => exact .inr (.inr ⟨hleft, rfl⟩)
    · exact .inr (.inl rfl)

/-- Line 2 of R195: nothing, the end of the settle time, or the end of an attempt. -/
theorem State.smExpired_cases :
    s.smExpired = s
      ∨ (s.state = .reset ∧ s.smExpired = { s with exit := { s.exit with resetWaitDone := true } })
      ∨ ((s.state = .uninitialized ∨ s.state = .initialized) ∧ ∃ f, s.smExpired = s.retryHandshake f) := by
  by_cases hreset : s.state = .reset
  · exact .inr (.inl ⟨hreset, State.smExpired_reset hreset⟩)
  · by_cases huninit : s.state = .uninitialized
    · exact .inr (.inr ⟨.inl huninit, _, State.smExpired_uninitialized huninit⟩)
    · by_cases hinit : s.state = .initialized
      · exact .inr (.inr ⟨.inr hinit, _, State.smExpired_initialized hinit⟩)
      · exact .inl (State.smExpired_elsewhere hreset huninit hinit)

/-- Line 2 of R216: nothing without a SEND or with an abort flag, one more transmission, or the end of the SEND. -/
theorem State.txExpired_cases :
    (s.txExpired = s ∧ (s.txBusy = true → s.exit.abort = true))
      ∨ (s.txBusy = true ∧ s.txRetryCnt ≠ 0 ∧
        s.txExpired = { s.emit s.txFrame with txRetryCnt := s.txRetryCnt - 1 }.arm .tx s.cfg.retxInterval)
      ∨ (s.txBusy = true ∧ s.txExpired = s.releaseTx.complete .send .maxRetriesReached) := by
  unfold State.txExpired
  split
  · next hgoes =>
    obtain ⟨hbusy, -⟩ := State.retransmits_iff.1 hgoes
    split
    · next hleft => exact .inr (.inl ⟨hbusy, hleft, rfl⟩)
    · exact .inr (.inr ⟨hbusy, rfl⟩)
  · next hstops => exact .inl ⟨rfl, fun hbusy => by simpa [hbusy] using hstops⟩

/-- R213: a SEND is refused with a result or started in ACTIVE. -/
theorem State.acceptSend_cases (p : Bytes) :
    (∃ r, s.acceptSend p = s.complete .send r)
      ∨ (s.state = .active ∧ p.length ≤ Config.maxPayload ∧ s.acceptSend p = s.startSend p) := by
  by_cases hstate : s.state = .active
  · by_cases hp : p.length ≤ Config.maxPayload
    · exact .inr ⟨hstate, hp, State.acceptSend_fits hstate hp⟩
    · exact .inl ⟨_, State.acceptSend_too_long hstate (not_le.1 hp)⟩
  · exact .inl ⟨_, State.acceptSend_outside_active hstate⟩

/-- Line 2 of R175. -/
theorem State.openExpired_cases :
    (s.openExpired = s ∧ s.openPending = false)
      ∨ (s.openExpired = { s with openPending := false }.complete .opn .timeout ∧ s.openPending = true) := by
  cases h : s.openPending <;> simp [State.openExpired, h]

end

/-- A row of the transition table does not lead to START, and it leaves an open link where the invariant holds. -/
theorem takesRow_enter {s t : State} (h : takesRow s t) : ∃ st c, t = s.enter st c ∧ isTerminal s.state = false ∧ st ≠ .start := by
  obtain ⟨st, c, rfl, hterminal, hrow⟩ := h
  refine ⟨st, c, rfl, hterminal, ?_⟩
  rintro rfl
  simp [transition] at hrow

end Sys2Proof.Machine

namespace Sys2Proof.Safety

open Machine

/-! ### The invariant under the primitives (R52) -/

section
variable {s t : State}

theorem linkOpen_of_not_terminal (h : Inv s) (hs : isTerminal s.state = false) : s.linkOpen = true := by
  by_contra hclosed
  obtain ⟨hterminal, -⟩ := h.closed (Bool.eq_false_iff.2 hclosed)
  simp [hs] at hterminal

theorem closedQuiet_of_open (h : s.linkOpen = true) : closedQuiet s := fun hc => by simp [h] at hc

theorem sendTimed_of_idle (h : s.txBusy = false) : sendTimed s := fun hb => by simp [h] at hb

theorem txFrameOk_of_idle (h : s.txBusy = false) : txFrameOk s := fun hb => by simp [h] at hb

/-- What the invariant does not speak about may change. -/
theorem Inv.free (h : Inv s) (seqNum ackNum : BitVec 3) (errCount : BitVec 32) (flt : Bool) (inbound : Bytes) (hcWait : List Bytes)
    (out : List OutMsg) (answers : List Answer) (agenda : List Message) (freeCount : Nat) :
    Inv { s with seqNum, ackNum, errCount, flt, inbound, hcWait, out, answers, agenda, freeCount } :=
  ⟨h.send, h.timer, h.pending, h.closed, h.flags, h.rxBuffer, h.counters, h.frame⟩

theorem Inv.put (h : Inv s) (o : OutMsg) : Inv (s.put o) := h.free ..

/-- A SEND in flight stays timed while its timer and the link stay and no abort flag is taken back. -/
theorem sendTimed_of (h : sendTimed s) (hbusy : t.txBusy = s.txBusy) (hopen : t.linkOpen = s.linkOpen)
    (htimer : t.tTx.armed = s.tTx.armed) (habort : s.exit.abort = true → t.exit.abort = true) : sendTimed t := by
  intro hb
  rw [hbusy] at hb
  rcases h hb with hrun | hcan
  · exact .inl (by rwa [hopen, htimer])
  · simp only [State.canTxAbort, Bool.and_eq_true] at hcan ⊢
    exact .inr ⟨hbusy.trans hb, habort hcan.2⟩

/-- New flags keep the invariant when each stands in its states and no abort flag is taken back. -/
theorem Inv.setExit (h : Inv s) {e : ExitFlags} (habort : s.exit.abort = true → e.abort = true)
    (hflags : flagsRelevant { s with exit := e }) : Inv { s with exit := e } :=
  ⟨sendTimed_of h.send rfl rfl rfl habort, h.timer, h.pending, h.closed, hflags, h.rxBuffer, h.counters, h.frame⟩

theorem Inv.raise (h : Inv s) {io close : Bool} (hio : s.exit.ioError = true → io = true) (hclose : s.exit.close = true → close = true) :
    Inv { s with exit := { s.exit with ioError := io, close := close } } := by
  refine h.setExit (fun habort => ?_) h.flags
  rw [ExitFlags.abort_iff] at habort ⊢
  exact habort.imp hio hclose

theorem Inv.emit (h : Inv s) (f : Bytes) : Inv (s.emit f) :=
  (h.raise (io := s.exit.ioError || s.nextAnswer == .err) (fun hio => by simp [hio]) id).free ..

theorem Inv.disarm_sm (h : Inv s) : Inv (s.disarm .sm) :=
  ⟨h.send, fun ha => absurd ha Bool.false_ne_true, h.pending, fun hc => (by
    obtain ⟨h1, h2, h3, h4, -, h6⟩ := h.closed hc
    exact ⟨h1, h2, h3, h4, rfl, h6⟩), h.flags, h.rxBuffer, h.counters, h.frame⟩

theorem Inv.disarm_opn (h : Inv s) : Inv (s.disarm .opn) :=
  ⟨h.send, h.timer, h.pending, fun hc => (by
    obtain ⟨h1, h2, h3, h4, h5, h6, -⟩ := h.closed hc
    exact ⟨h1, h2, h3, h4, h5, h6, rfl⟩), h.flags, h.rxBuffer, h.counters, h.frame⟩

/-- The end of the SEND in flight, whatever is left in its buffer and in its timer (R41, R44). -/
theorem Inv.sendDone (h : Inv s) (txFrame : Bytes) (rem : BitVec 16) (out : List OutMsg) (freeCount : Nat) :
    Inv { s with txBusy := false, txFrame, tTx := ⟨false, rem⟩, out, freeCount } :=
  ⟨sendTimed_of_idle rfl, h.timer, h.pending, fun hc => (by
    obtain ⟨h1, -, h3, h4, h5, -, h7⟩ := h.closed hc
    exact ⟨h1, rfl, h3, h4, h5, rfl, h7⟩), h.flags, h.rxBuffer, h.counters, txFrameOk_of_idle rfl⟩

theorem Inv.endSend (h : Inv s) (r : ResultCode) : Inv (s.endSend r) := h.sendDone _ _ _ _

theorem Inv.clearOpen (h : Inv s) : Inv { s with openPending := false } :=
  ⟨h.send, h.timer, fun hp => absurd hp Bool.false_ne_true, fun hc => (by
    obtain ⟨h1, h2, -, h4⟩ := h.closed hc
    exact ⟨h1, h2, rfl, h4⟩), h.flags, h.rxBuffer, h.counters, h.frame⟩

/-! ### The invariant along the receive path -/

theorem Inv.onAck (h : Inv s) (hstate : s.state = .active) (d : Packet) : Inv (s.onAck d) := by
  have hseq : Inv { s with seqNum := seqIncr s.seqNum } := h.free ..
  rcases s.onAck_cases d with ⟨he, -⟩ | he | ⟨he, -⟩ | ⟨he, -⟩ <;> rw [he]
  · exact h
  · obtain ⟨h1, h2, h3, h4, h5, h6, -⟩ := h.flags
    exact h.setExit id ⟨h1, h2, h3, h4, h5, h6, fun _ => hstate⟩
  · exact hseq
  · exact hseq.endSend .ok

theorem Inv.onData (h : Inv s) (d : Packet) : Inv (s.onData d) := by
  have hack : Inv { s with ackNum := seqIncr s.ackNum } := h.free ..
  rcases s.onData_cases d with ⟨he, -⟩ | ⟨he, -⟩ <;> rw [he]
  · exact (hack.emit _).put _
  · exact h.emit _

theorem Inv.dispatch (h : Inv s) (k : PacketKind) (d : Packet) : Inv (s.dispatch k d) := by
  obtain ⟨h1, h2, h3, h4, h5, h6, h7⟩ := h.flags
  rcases s.dispatch_cases k d with he | ⟨he, hstate⟩ | ⟨he, hstate⟩ | ⟨he, -⟩ | ⟨he, -⟩ | ⟨he, hstate⟩ | ⟨he, -⟩ <;> rw [he]
  · exact h
  · exact h.setExit id ⟨h1, h2, h3, fun _ => hstate, h5, h6, h7⟩
  · exact h.setExit id ⟨h1, h2, h3, h4, h5, fun _ => hstate, h7⟩
  · exact h.emit _
  · exact h.emit _
  · exact h.onAck hstate d
  · exact h.onData d

theorem Inv.rxFrame (h : Inv s) (chunk : Bytes) (ovf : Bool) : Inv (s.rxFrame chunk ovf) := by
  rcases s.rxFrame_cases chunk ovf with ⟨e, he⟩ | ⟨k, d, he⟩ <;> rw [he]
  · exact h.free ..
  · exact h.dispatch k d

/-- The reassembler may hold anything that keeps to its bounds. -/
theorem Inv.setRx (h : Inv s) {rxSync : Bool} {rxBuf : Bytes} {rxOvf : Bool} (hrx : rxBufferOk { s with rxSync, rxBuf, rxOvf }) :
    Inv { s with rxSync, rxBuf, rxOvf } :=
  ⟨h.send, h.timer, h.pending, h.closed, h.flags, hrx, h.counters, h.frame⟩

/-- A synchronised reassembler on an open link has the two bounds left to keep. -/
theorem rxBufferOk_of_open (hopen : s.linkOpen = true) (hsync : s.rxSync = true) (hdelim : s.cfg.delim ∉ s.rxBuf)
    (hlen : s.rxBuf.length ≤ s.cfg.rxBufMax) : rxBufferOk s :=
  ⟨hdelim, hlen, fun h => by simp [hsync] at h, fun h => by simp [hopen] at h⟩

theorem Inv.consume (h : Inv s) (b : Byte) : Inv (s.consume b) := by
  obtain ⟨hdelim, hlen, hquiet, -⟩ := h.rxBuffer
  have hopen : s.receiving = true → s.linkOpen = true := fun hr => (s.receiving_iff.1 hr).1
  rcases s.consume_cases b with ⟨he, -⟩ | ⟨he, hr, -⟩ | ⟨he, hr, -⟩ | ⟨he, -⟩ | ⟨he, hr, -, hs, -⟩ | ⟨he, hr, hb, hs, hroom⟩ <;> rw [he]
  · exact h.setRx ⟨by simp, by simp, fun _ => ⟨rfl, rfl⟩, fun _ => rfl⟩
  · have hhand : Inv { s with rxBuf := [], rxOvf := false } :=
      h.setRx ⟨by simp, by simp, fun _ => ⟨rfl, rfl⟩, h.rxBuffer.2.2.2⟩
    exact (hhand.rxFrame s.chunk s.rxOvf).setRx (rxBufferOk_of_open (by simpa using hopen hr) rfl (by simp) (by simp))
  · exact h.setRx (rxBufferOk_of_open (hopen hr) rfl hdelim hlen)
  · exact h
  · exact h.setRx (rxBufferOk_of_open (hopen hr) hs hdelim hlen)
  · refine h.setRx (rxBufferOk_of_open (hopen hr) hs ?_ ?_)
    · simpa [hdelim] using Ne.symm hb
    · simp only [List.length_append, List.length_singleton]; omega

theorem Inv.consumeAll (bs : Bytes) (h : Inv s) : Inv (State.consumeAll bs s) := by
  induction bs generalizing s with
  | nil => exact h
  | cons b rest ih => exact ih (Inv.consume (s := { s with inbound := rest }) (h.free ..) b)

/-! ### The invariant under `enter`, the timers, SEND, OPEN, CLOSE.DONE and reset -/

/-- A state of the handshake is entered with its timer armed and no flag but its own. -/
theorem Inv.enter (h : Inv s) (hopen : s.linkOpen = true) {st : ConnState} (hst : st ≠ .start) (c : Cause) : Inv (s.enter st c) := by
  have hkept : s.exit.abort = true → s.exit.clearPerState.abort = true := id
  have hraised : ∀ (x y : Bool), s.exit.abort = true → ({ ExitFlags.zero with
      resetSent := x, ioError := s.exit.ioError || y, close := s.exit.close } : ExitFlags).abort = true := by
    intro x y habort
    simp only [ExitFlags.abort_iff, Bool.or_eq_true] at habort ⊢
    tauto
  have hterminal : ∀ r, isTerminal st = true → openResult st = some r → Inv (s.enter st c) := by
    intro r ht hr
    obtain ⟨r1, r2, n, he⟩ := State.enter_terminal st r ht hr c s
    rw [he]
    exact ⟨sendTimed_of h.send rfl rfl rfl hkept, fun ha => absurd ha Bool.false_ne_true, fun hp => absurd hp Bool.false_ne_true,
      closedQuiet_of_open hopen, by simp [flagsRelevant, ExitFlags.clearPerState, ExitFlags.zero], h.rxBuffer, h.counters, h.frame⟩
  cases st with
  | start => exact absurd rfl hst
  | reset =>
    obtain ⟨a, n, -, he⟩ := State.enter_reset c s
    rw [he]
    exact ⟨sendTimed_of h.send rfl rfl rfl (hraised _ _), fun _ => rfl, fun _ => ⟨hopen, rfl⟩, closedQuiet_of_open hopen,
      by simp [flagsRelevant, ExitFlags.zero], h.rxBuffer, h.counters, h.frame⟩
  | uninitialized =>
    obtain ⟨a, n, -, he⟩ := State.enter_uninitialized c s
    rw [he]
    exact ⟨sendTimed_of h.send rfl rfl rfl (hraised _ _), fun _ => rfl, fun _ => ⟨hopen, rfl⟩, closedQuiet_of_open hopen,
      by simp [flagsRelevant, ExitFlags.zero], h.rxBuffer, ⟨BitVec.le_refl _, h.counters.2⟩, h.frame⟩
  | initialized =>
    obtain ⟨a, n, -, he⟩ := State.enter_initialized c s
    rw [he]
    exact ⟨sendTimed_of h.send rfl rfl rfl (hraised _ _), fun _ => rfl, fun _ => ⟨hopen, rfl⟩, closedQuiet_of_open hopen,
      by simp [flagsRelevant, ExitFlags.zero], h.rxBuffer, ⟨BitVec.le_refl _, h.counters.2⟩, h.frame⟩
  | active =>
    obtain ⟨r1, r2, n, he⟩ := State.enter_active c s
    rw [he]
    exact ⟨sendTimed_of h.send rfl rfl rfl hkept, fun ha => absurd ha Bool.false_ne_true, fun hp => absurd hp Bool.false_ne_true,
      closedQuiet_of_open hopen, by simp [flagsRelevant, ExitFlags.clearPerState, ExitFlags.zero], h.rxBuffer, h.counters, h.frame⟩
  | failed => exact hterminal .transportError rfl rfl
  | noResponse => exact hterminal .noResponse rfl rfl
  | closed => exact hterminal .closed rfl rfl

theorem sub_one_le_of_le {x y : BitVec 8} (hx : x ≠ 0) (h : x ≤ y) : x - 1 ≤ y := by
  bv_omega

theorem Inv.openTransport (s : State) : Inv s.loadOpen.openTransport :=
  ⟨sendTimed_of_idle rfl, fun ha => absurd ha Bool.false_ne_true, fun _ => ⟨rfl, rfl⟩,
    closedQuiet_of_open rfl,
    by simp [flagsRelevant, State.openTransport, State.loadOpen, State.arm, State.disarm, State.setTimer, State.request,
      State.noteAnswer, ExitFlags.zero],
    ⟨List.not_mem_nil, Nat.zero_le _, fun _ => ⟨rfl, rfl⟩, fun _ => rfl⟩,
    ⟨BitVec.le_def.2 (Nat.zero_le _), BitVec.le_def.2 (Nat.zero_le _)⟩,
    txFrameOk_of_idle rfl⟩

/-- The "after reset" column of R51 meets the invariant, whatever stands where the column says nothing. -/
theorem Inv.cleared (cfg : Cfg) (txFrame : Bytes) (r1 r2 r3 : BitVec 16) (out : List OutMsg) (answers : List Answer)
    (agenda : List Message) (freeCount : Nat) : Inv { State.reset with
      cfg, txFrame, tSm := ⟨false, r1⟩, tTx := ⟨false, r2⟩, tOpen := ⟨false, r3⟩, out, answers, agenda, freeCount } :=
  ⟨sendTimed_of_idle rfl, fun ha => absurd ha Bool.false_ne_true, fun hp => absurd hp Bool.false_ne_true,
    fun _ => ⟨rfl, rfl, rfl, rfl, rfl, rfl, rfl⟩, by simp [flagsRelevant, State.reset, ExitFlags.zero],
    ⟨List.not_mem_nil, Nat.zero_le _, fun _ => ⟨rfl, rfl⟩, fun _ => rfl⟩,
    ⟨BitVec.le_def.2 (Nat.zero_le _), BitVec.le_def.2 (Nat.zero_le _)⟩,
    txFrameOk_of_idle rfl⟩

theorem Inv.hardwareReset (s : State) : Inv s.hardwareReset := Inv.cleared ..

theorem Inv.closeLink (h : Inv s) (hcan : s.canCloseDone = true) : Inv s.closeLink := by
  obtain ⟨-, hterminal, hidle⟩ := s.canCloseDone_iff.1 hcan
  have hpending : s.openPending = false := by
    by_contra hp
    have hstate := (h.pending (Bool.eq_true_of_not_eq_false hp)).2
    cases hs : s.state <;> simp [hs, isTerminal, openingState, timedState] at hterminal hstate
  obtain ⟨a, r1, r2, r3, n, -, he⟩ := s.closeLink_answered
  rw [he]
  exact ⟨sendTimed_of_idle hidle, fun ha => absurd ha Bool.false_ne_true, fun hp => absurd (hpending.symm.trans hp) Bool.false_ne_true,
    fun _ => ⟨hterminal, hidle, hpending, rfl, rfl, rfl, rfl⟩, h.flags,
    ⟨List.not_mem_nil, Nat.zero_le _, fun _ => ⟨rfl, rfl⟩, fun _ => rfl⟩, h.counters, txFrameOk_of_idle hidle⟩

/-- An open link is what the arming of a timer asks for (R52 (f)). -/
theorem linkOpen_of_armed (h : Inv s) (ha : s.tSm.armed = true ∨ s.tTx.armed = true) : s.linkOpen = true := by
  by_contra hclosed
  obtain ⟨-, -, -, -, hsm, htx, -⟩ := h.closed (Bool.eq_false_iff.2 hclosed)
  simp [hsm, htx] at ha

/-- One more attempt of the handshake spends one of the budget and waits again. -/
theorem Inv.retryHandshake (h : Inv s) (hopen : s.linkOpen = true) (hstate : s.state = .uninitialized ∨ s.state = .initialized)
    (f : Bytes) : Inv (s.retryHandshake f) := by
  obtain ⟨h1, h2, h3, h4, h5, h6, h7⟩ := h.flags
  have htimed : timedState s.state = true := by rcases hstate with hs | hs <;> rw [hs] <;> rfl
  rcases s.retryHandshake_cases f with heq | heq | ⟨hleft, heq⟩ <;> rw [heq]
  · exact h
  · exact h.setExit id ⟨h1, h2, h3, h4, fun _ => hstate, h6, h7⟩
  · have he := h.emit f
    exact ⟨he.send, fun _ => htimed, he.pending, closedQuiet_of_open hopen, he.flags, he.rxBuffer,
      ⟨sub_one_le_of_le hleft h.counters.1, he.counters.2⟩, he.frame⟩

theorem Inv.smExpired (h : Inv s) (hopen : s.linkOpen = true) : Inv s.smExpired := by
  obtain ⟨h1, h2, h3, h4, h5, h6, h7⟩ := h.flags
  rcases s.smExpired_cases with heq | ⟨hstate, heq⟩ | ⟨hstate, f, heq⟩ <;> rw [heq]
  · exact h
  · exact h.setExit id ⟨h1, h2, fun _ => hstate, h4, h5, h6, h7⟩
  · exact h.retryHandshake hopen hstate f

/-- The expiry of `t_tx` leaves no SEND without a timer: it is armed again, or the SEND ends or is about to be aborted. -/
theorem Inv.txExpired (h : Inv s) (hopen : s.linkOpen = true) : Inv (s.disarm .tx).txExpired := by
  rcases (s.disarm .tx).txExpired_cases with ⟨heq, habort⟩ | ⟨hbusy, hleft, heq⟩ | ⟨hbusy, heq⟩ <;> rw [heq]
  · refine ⟨fun hb => .inr ?_, h.timer, h.pending, closedQuiet_of_open hopen, h.flags, h.rxBuffer, h.counters, h.frame⟩
    simp only [State.canTxAbort, Bool.and_eq_true]
    exact ⟨hb, habort hb⟩
  · obtain ⟨a, n, -, hemit⟩ := (s.disarm .tx).emit_answered (s.disarm .tx).txFrame
    have he := h.raise (io := s.exit.ioError || a == .err) (fun hio => by simp [hio]) id
    rw [hemit]
    exact ⟨fun _ => .inl ⟨hopen, rfl⟩, he.timer, he.pending, closedQuiet_of_open hopen, he.flags, he.rxBuffer,
      ⟨he.counters.1, sub_one_le_of_le hleft h.counters.2⟩, he.frame⟩
  · exact h.sendDone _ _ _ _

theorem Inv.openExpired (h : Inv s) : Inv s.openExpired := by
  rcases s.openExpired_cases with ⟨he, -⟩ | ⟨he, -⟩ <;> rw [he]
  · exact h
  · exact h.clearOpen.put _

theorem Inv.startSend (h : Inv s) (hstate : s.state = .active) {p : Bytes} (hp : p.length ≤ Config.maxPayload) :
    Inv (s.startSend p) := by
  have hopen := linkOpen_of_not_terminal h (by rw [hstate]; rfl)
  have he := h.emit (dataFrameOf s.cfg p s.seqNum s.ackNum)
  exact ⟨fun _ => .inl ⟨hopen, rfl⟩, he.timer, he.pending, closedQuiet_of_open hopen, he.flags,
    he.rxBuffer, ⟨he.counters.1, BitVec.le_refl _⟩, fun _ => ⟨p, s.seqNum, s.ackNum, hp, rfl⟩⟩

theorem Inv.acceptSend (h : Inv s) (p : Bytes) : Inv (s.acceptSend p) := by
  rcases s.acceptSend_cases p with ⟨r, he⟩ | ⟨hstate, hp, he⟩ <;> rw [he]
  · exact h.put _
  · exact h.startSend hstate hp

theorem Timer.tick_armed (t : Timer) : t.tick.armed = t.armed := by
  unfold Timer.tick
  split <;> rfl

theorem Inv.tick (h : Inv s) : Inv { s with tSm := s.tSm.tick, tTx := s.tTx.tick, tOpen := s.tOpen.tick } :=
  ⟨sendTimed_of h.send rfl rfl (Timer.tick_armed _) id, fun ha => h.timer ((Timer.tick_armed _).symm.trans ha), h.pending,
    by simpa only [closedQuiet, Timer.tick_armed] using h.closed, h.flags, h.rxBuffer, h.counters, h.frame⟩

/-- An accepted CLOSE leaves the link open, so its pending bit is free to stand (R173). -/
theorem Inv.closing (h : Inv s) (hopen : s.linkOpen = true) :
    Inv { s with exit := { s.exit with close := true }, closePending := true } := by
  have hr := h.raise (io := s.exit.ioError) (close := true) id fun _ => rfl
  exact ⟨hr.send, hr.timer, hr.pending, closedQuiet_of_open hopen, hr.flags, hr.rxBuffer,
    hr.counters, hr.frame⟩

/-- Every effect of an operation keeps the invariant. -/
theorem Inv.effect {i : Instr} (h : Inv s) (e : Effect s i t) : Inv t := by
  cases e with
  | reset => exact .hardwareReset s
  | opened => exact .openTransport s
  | openRefused => exact h.put _
  | closing hopen => exact h.closing hopen
  | closeRefused => exact h.put _
  | stalled => exact h.free ..
  | presented p => exact h.acceptSend p
  | answered => exact h.put _
  | faulted => exact h.free ..
  | data => exact h.free ..
  | status => exact h.raise (fun hio => by simp [hio]) id
  | logged => exact h.put _
  | token bs => exact Inv.consumeAll (s.inbound ++ bs) (s := s.indicate bs) (h.free ..)
  | @byte b rest => exact Inv.consume (s := { s with inbound := rest }) (h.free ..) b
  | chunk bs ovf => exact h.rxFrame bs ovf
  | packet k d => exact h.dispatch k d
  | frame f => exact h.emit f
  | row _ hrow =>
    obtain ⟨st, c, rfl, hterminal, hst⟩ := takesRow_enter hrow
    exact h.enter (linkOpen_of_not_terminal h hterminal) hst c
  | closed hcan => exact h.closeLink hcan
  | aborted r => exact h.endSend r
  | smDue hdue =>
    have hopen := linkOpen_of_armed h (.inl (s.tSm.expired_iff.1 hdue).1)
    exact h.disarm_sm.smExpired hopen
  | txDue hdue => exact h.txExpired (linkOpen_of_armed h (.inr (s.tTx.expired_iff.1 hdue).1))
  | openDue => exact h.disarm_opn.openExpired
  | tick => exact h.tick
  | idle => exact h

theorem Inv.presentStalled (h : Inv s) : Inv s.presentStalled := by
  unfold State.presentStalled
  split
  · exact h
  · split
    · exact h
    · next p rest _ => exact Inv.acceptSend (s := { s with hcWait := rest }) (h.free ..) p

/-- A message without an operation is no step, or presents the oldest stalled SEND (R108). -/
theorem noOperation_next {e : DecodeError} (h : s.noOperation e = .next t) : t = s.presentStalled ∨ t = s := by
  cases e <;> cases h
  · exact .inl rfl
  · exact .inr rfl

/-- What `step` can do: wait, take a message that is no operation, or run one. -/
theorem step_cases (h : step s = .next t) :
    t = s ∨ ∃ rest, t = { s with agenda := rest } ∨ t = State.presentStalled { s with agenda := rest }
      ∨ ∃ i, exec i { s with agenda := rest } = .next t := by
  unfold step at h
  split at h
  · split at h
    · exact .inl (Host.Outcome.next.inj h).symm
    · next m s' hf =>
      obtain ⟨rest, rfl⟩ : ∃ rest, s' = { s with agenda := rest } := by
        unfold State.fetch at hf
        split at hf <;> cases hf
        exact ⟨_, rfl⟩
      refine .inr ⟨rest, ?_⟩
      split at h
      · next i _ => exact .inr (.inr ⟨i, h⟩)
      · rcases noOperation_next h with rfl | rfl
        · exact .inr (.inl rfl)
        · exact .inl rfl
  · cases h

end

/-- Settles O48: each effect of an operation keeps the invariant, and so does a stalled SEND that is presented again. -/
theorem stepKeepsInvariant : Obligations.StepKeepsInvariant := by
  intro s t hinv h
  rcases step_cases h with rfl | ⟨rest, rfl | rfl | ⟨i, hexec⟩⟩
  · exact hinv
  · exact hinv.free ..
  · exact Inv.presentStalled (hinv.free ..)
  · exact Inv.effect (hinv.free ..) (exec_effect hexec)

/-- Settles O47: the state after hardware reset is one of those with the registers of that column. -/
theorem invariantAtReset : Obligations.InvariantAtReset := Inv.cleared ..

end Sys2Proof.Safety

namespace Sys2Proof.Machine

open Safety

/-! ### Registers that the shared operations leave alone -/

@[simp] theorem State.consumeAll_cfg (bs : Bytes) (s : State) : (State.consumeAll bs s).cfg = s.cfg := by
  induction bs generalizing s with
  | nil => rfl
  | cons b rest ih => rw [State.consumeAll, ih, State.consume_cfg]

@[simp] theorem State.consumeAll_flt (bs : Bytes) (s : State) : (State.consumeAll bs s).flt = s.flt := by
  induction bs generalizing s with
  | nil => rfl
  | cons b rest ih => rw [State.consumeAll, ih, State.consume_flt]

/-- The registers of the link's numbers, the parameters and the fault bit are as they were. -/
def numbersKept (s t : State) : Prop :=
  t.cfg = s.cfg ∧ t.flt = s.flt ∧ t.seqNum = s.seqNum ∧ t.ackNum = s.ackNum ∧ t.errCount = s.errCount

theorem numbersKept_refl (s : State) : numbersKept s s := ⟨rfl, rfl, rfl, rfl, rfl⟩

section
variable (s : State)

theorem State.acceptSend_numbersKept (p : Bytes) : numbersKept s (s.acceptSend p) := by
  rcases s.acceptSend_cases p with ⟨r, h⟩ | ⟨-, -, h⟩ <;> rw [h] <;> exact ⟨rfl, rfl, rfl, rfl, rfl⟩

theorem State.retryHandshake_numbersKept (f : Bytes) : numbersKept s (s.retryHandshake f) := by
  rcases s.retryHandshake_cases f with h | h | ⟨-, h⟩ <;> rw [h] <;> exact ⟨rfl, rfl, rfl, rfl, rfl⟩

theorem State.smExpired_numbersKept : numbersKept s s.smExpired := by
  rcases s.smExpired_cases with h | ⟨-, h⟩ | ⟨-, f, h⟩ <;> rw [h]
  · exact numbersKept_refl s
  · exact numbersKept_refl s
  · exact s.retryHandshake_numbersKept f

theorem State.txExpired_numbersKept : numbersKept s s.txExpired := by
  rcases s.txExpired_cases with ⟨h, -⟩ | ⟨-, -, h⟩ | ⟨-, h⟩ <;> rw [h] <;> exact ⟨rfl, rfl, rfl, rfl, rfl⟩

theorem State.openExpired_numbersKept : numbersKept s s.openExpired := by
  rcases s.openExpired_cases with ⟨h, -⟩ | ⟨h, -⟩ <;> rw [h] <;> exact ⟨rfl, rfl, rfl, rfl, rfl⟩

/-- A packet leaves each number or advances it by one (R220, R224). -/
theorem State.dispatch_numbers (k : PacketKind) (d : Packet) :
    ((s.dispatch k d).seqNum = s.seqNum ∨ (s.dispatch k d).seqNum = seqIncr s.seqNum)
      ∧ ((s.dispatch k d).ackNum = s.ackNum ∨ (s.dispatch k d).ackNum = seqIncr s.ackNum) := by
  rcases s.dispatch_cases k d with h | ⟨h, -⟩ | ⟨h, -⟩ | ⟨h, -⟩ | ⟨h, -⟩ | ⟨h, -⟩ | ⟨h, -⟩ <;> rw [h]
  · exact ⟨.inl rfl, .inl rfl⟩
  · exact ⟨.inl rfl, .inl rfl⟩
  · exact ⟨.inl rfl, .inl rfl⟩
  · exact ⟨.inl rfl, .inl rfl⟩
  · exact ⟨.inl rfl, .inl rfl⟩
  · rcases s.onAck_cases d with ⟨h, -⟩ | h | ⟨h, -⟩ | ⟨h, -⟩ <;> rw [h]
    · exact ⟨.inl rfl, .inl rfl⟩
    · exact ⟨.inl rfl, .inl rfl⟩
    · exact ⟨.inr rfl, .inl rfl⟩
    · exact ⟨.inr rfl, .inl rfl⟩
  · rcases s.onData_cases d with ⟨h, -⟩ | ⟨h, -⟩ <;> rw [h]
    · exact ⟨.inl rfl, .inr rfl⟩
    · exact ⟨.inl rfl, .inl rfl⟩

/-- RX.BYTE leaves each number or advances it by one, and it counts one error at most (R30, R139). -/
theorem State.consume_numbers (b : Byte) :
    ((s.consume b).seqNum = s.seqNum ∨ (s.consume b).seqNum = seqIncr s.seqNum)
      ∧ ((s.consume b).ackNum = s.ackNum ∨ (s.consume b).ackNum = seqIncr s.ackNum)
      ∧ ((s.consume b).errCount = s.errCount ∨ (s.consume b).errCount = s.errCount + 1) := by
  have hkept : ∀ u, numbersKept s u → (u.seqNum = s.seqNum ∨ u.seqNum = seqIncr s.seqNum)
      ∧ (u.ackNum = s.ackNum ∨ u.ackNum = seqIncr s.ackNum) ∧ (u.errCount = s.errCount ∨ u.errCount = s.errCount + 1) :=
    fun u ⟨_, _, hseq, hack, herr⟩ => ⟨.inl hseq, .inl hack, .inl herr⟩
  rcases s.consume_cases b with ⟨h, -⟩ | ⟨h, -⟩ | ⟨h, -⟩ | ⟨h, -⟩ | ⟨h, -⟩ | ⟨h, -⟩ <;> rw [h]
  case inr.inl =>
    rcases State.rxFrame_cases s.chunk s.rxOvf { s with rxBuf := [], rxOvf := false } with ⟨e, h⟩ | ⟨k, d, h⟩ <;> rw [h]
    · exact ⟨.inl rfl, .inl rfl, .inr rfl⟩
    · obtain ⟨hseq, hack⟩ := State.dispatch_numbers { s with rxBuf := [], rxOvf := false } k d
      exact ⟨hseq, hack, .inl (State.dispatch_errCount k d _)⟩
  all_goals exact hkept _ ⟨rfl, rfl, rfl, rfl, rfl⟩

/-- `enter` leaves the numbers, or clears them on the way to ACTIVE (R176, R210). -/
theorem State.enter_numbers (st : ConnState) (c : Cause) :
    ((s.enter st c).seqNum = s.seqNum ∨ (s.enter st c).seqNum = 0)
      ∧ ((s.enter st c).ackNum = s.ackNum ∨ (s.enter st c).ackNum = 0) := by
  simp only [State.enter, State.completeOpen_seqNum, State.completeOpen_ackNum]
  cases st with
  | active => exact ⟨.inr rfl, .inr rfl⟩
  | start | reset | uninitialized | initialized | failed | noResponse | closed => exact ⟨.inl rfl, .inl rfl⟩

end

theorem seqIncr_toNat (n : BitVec 3) : (seqIncr n).toNat = (n.toNat + 1) % 8 := by
  simp [seqIncr]

/-! ### The effects one by one: parameters, fault bit, numbers -/

section
variable {s t : State} {i : Instr}

theorem Effect.cfg_eq (e : Effect s i t) : t.cfg = s.cfg := by
  cases e with
  | token bs => exact State.consumeAll_cfg _ (s.indicate bs)
  | byte => exact State.consume_cfg _ _
  | chunk => exact State.rxFrame_cfg ..
  | packet => exact State.dispatch_cfg ..
  | presented p => exact (s.acceptSend_numbersKept p).1
  | row _ h =>
    obtain ⟨st, c, rfl, -⟩ := takesRow_enter h
    exact State.enter_cfg st c s
  | smDue => exact (s.disarm .sm).smExpired_numbersKept.1
  | txDue => exact (s.disarm .tx).txExpired_numbersKept.1
  | openDue => exact (s.disarm .opn).openExpired_numbersKept.1
  | _ => rfl

/-- The fault bit is kept, cleared by hardware reset, or set by PKT.ENCODE (R247). -/
theorem Effect.flt_cases (e : Effect s i t) :
    t.flt = s.flt ∨ (i = .hwReset ∧ t.flt = false) ∨ ∃ p seq r g, i = .pktEncode p seq 0xFF r g 0 := by
  cases e with
  | reset => exact .inr (.inl ⟨rfl, rfl⟩)
  | faulted p seq r g => exact .inr (.inr ⟨p, seq, r, g, rfl⟩)
  | token bs => exact .inl (State.consumeAll_flt _ (s.indicate bs))
  | byte => exact .inl (State.consume_flt _ _)
  | chunk => exact .inl (State.rxFrame_flt ..)
  | packet => exact .inl (State.dispatch_flt ..)
  | presented p => exact .inl (s.acceptSend_numbersKept p).2.1
  | row _ h =>
    obtain ⟨st, c, rfl, -⟩ := takesRow_enter h
    exact .inl (State.enter_flt st c s)
  | smDue => exact .inl (s.disarm .sm).smExpired_numbersKept.2.1
  | txDue => exact .inl (s.disarm .tx).txExpired_numbersKept.2.1
  | openDue => exact .inl (s.disarm .opn).openExpired_numbersKept.2.1
  | _ => exact .inl rfl

/-- A step leaves a number, clears it, or adds one modulo 8 (R155, R232). -/
def advances (n m : BitVec 3) : Prop := m = n ∨ m = 0 ∨ m.toNat = (n.toNat + 1) % 8

theorem advances_of_incr {n m : BitVec 3} (h : m = n ∨ m = seqIncr n) : advances n m :=
  h.imp_right fun hm => .inr ((congrArg BitVec.toNat hm).trans (seqIncr_toNat n))

theorem advances_of_clear {n m : BitVec 3} (h : m = n ∨ m = 0) : advances n m := h.imp_right .inl

/-- What a step proper may do to the numbers and to the error counter (R30, R232). -/
abbrev counterMoves (s : State) (i : Instr) (t : State) : Prop :=
  advances s.seqNum t.seqNum ∧ advances s.ackNum t.ackNum
    ∧ (t.errCount = s.errCount ∨ (i = .rxByte ∧ t.errCount = s.errCount + 1)
      ∨ ((i = .hostOpen ∨ i = .hwReset) ∧ t.errCount = 0))

theorem counterMoves_of_kept (hseq : t.seqNum = s.seqNum) (hack : t.ackNum = s.ackNum) (herr : t.errCount = s.errCount) :
    counterMoves s i t :=
  ⟨.inl hseq, .inl hack, .inl herr⟩

theorem counterMoves_of_numbersKept (h : numbersKept s t) : counterMoves s i t := by
  obtain ⟨-, -, hseq, hack, herr⟩ := h
  exact counterMoves_of_kept hseq hack herr

theorem counterMoves_of_clear (hi : i = .hostOpen ∨ i = .hwReset) (hseq : t.seqNum = 0) (hack : t.ackNum = 0)
    (herr : t.errCount = 0) : counterMoves s i t :=
  ⟨.inr (.inl hseq), .inr (.inl hack), .inr (.inr ⟨hi, herr⟩)⟩

/-- Hardware reset and OPEN clear the counters, RX.BYTE and the entry to a state may move them, no other step touches them. -/
theorem Effect.counterMoves (e : Effect s i t) (hi : isStep i = true) : counterMoves s i t := by
  cases e with
  | reset => exact counterMoves_of_clear (.inr rfl) rfl rfl rfl
  | opened => exact counterMoves_of_clear (.inl rfl) rfl rfl rfl
  | @byte b rest =>
    obtain ⟨hseq, hack, herr⟩ := State.consume_numbers { s with inbound := rest } b
    exact ⟨advances_of_incr hseq, advances_of_incr hack, herr.imp_right fun h => .inl ⟨rfl, h⟩⟩
  | row _ h =>
    obtain ⟨st, c, rfl, -⟩ := takesRow_enter h
    obtain ⟨hseq, hack⟩ := s.enter_numbers st c
    exact ⟨advances_of_clear hseq, advances_of_clear hack, .inl (State.enter_errCount st c s)⟩
  | presented p => exact counterMoves_of_numbersKept (s.acceptSend_numbersKept p)
  | smDue => exact counterMoves_of_numbersKept (s.disarm .sm).smExpired_numbersKept
  | txDue => exact counterMoves_of_numbersKept (s.disarm .tx).txExpired_numbersKept
  | openDue => exact counterMoves_of_numbersKept (s.disarm .opn).openExpired_numbersKept
  | token _ hpiece | packet _ _ hpiece => exact absurd hi (by simp [hpiece])
  | chunk => exact absurd hi Bool.false_ne_true
  | _ => exact counterMoves_of_kept rfl rfl rfl

/-! ### What has been put out stays out (R62) -/

theorem reports_grows {l : List (ConnState × Cause)} (h : reports s t l) : s.out <+: t.out := by
  obtain ⟨new, hout, -⟩ := h
  exact ⟨new, hout.symm⟩

theorem exec_out_grows (h : exec i s = .next t) : s.out <+: t.out := by
  by_cases hi : i = .hwReset
  · subst hi
    cases h
    exact ⟨[], List.append_nil _⟩
  · rcases exec_silent_or_moves hi h with ⟨-, hrep⟩ | ⟨st, c, rfl, -⟩ | ⟨-, -, rfl⟩
    · exact reports_grows hrep
    · exact reports_grows (s.enter_reports st c)
    · exact ⟨[.tq .tOpen s.loadOpen.nextAnswer], rfl⟩

/-! ### A SEND in flight (R41, R229) -/

theorem sendKept_of_eq (hbusy : t.txBusy = s.txBusy) (hframe : t.txFrame = s.txFrame) (hcnt : t.txRetryCnt = s.txRetryCnt)
    (htimer : t.tTx = s.tTx) : sendKept s t :=
  fun hb => ⟨hbusy.symm.trans hb, hframe, hcnt, htimer⟩

theorem sendKept_of_idle (h : t.txBusy = false) : sendKept s t := fun hb => absurd hb (by simp [h])

theorem State.retryHandshake_sendKept (f : Bytes) (s : State) : sendKept s (s.retryHandshake f) := by
  rcases s.retryHandshake_cases f with h | h | ⟨-, h⟩ <;> rw [h] <;> exact sendKept_of_eq rfl rfl rfl rfl

theorem State.smExpired_sendKept (s : State) : sendKept s s.smExpired := by
  rcases s.smExpired_cases with h | ⟨-, h⟩ | ⟨-, f, h⟩ <;> rw [h]
  · exact sendKept_refl s
  · exact sendKept_of_eq rfl rfl rfl rfl
  · exact s.retryHandshake_sendKept f

theorem State.openExpired_sendKept (s : State) : sendKept s s.openExpired := by
  rcases s.openExpired_cases with ⟨h, -⟩ | ⟨h, -⟩ <;> rw [h] <;> exact sendKept_of_eq rfl rfl rfl rfl

/-- TICK and T_TX.EXPIRE alone touch the frame, the retry counter or the timer of a SEND that stays in flight. -/
theorem Effect.sendKept_or (e : Effect s i t) (hbusy : s.txBusy = true) :
    sendKept s t ∨ (i = .tick ∧ t.txFrame = s.txFrame) ∨ (i = .tTxExpire ∧ t = (s.disarm .tx).txExpired) := by
  cases e with
  | txDue => exact .inr (.inr ⟨rfl, rfl⟩)
  | tick => exact .inr (.inl ⟨rfl, rfl⟩)
  | reset | opened | aborted => exact .inl (sendKept_of_idle rfl)
  | presented p hidle => exact absurd hbusy (by simp [hidle])
  | closed h => exact absurd hbusy (by simp [(s.canCloseDone_iff.1 h).2.2])
  | token bs => exact .inl (State.consumeAll_sendKept (s.inbound ++ bs) (s.indicate bs))
  | @byte b rest => exact .inl (State.consume_sendKept b { s with inbound := rest })
  | chunk bs ovf => exact .inl (s.rxFrame_sendKept bs ovf)
  | packet k d => exact .inl (s.dispatch_sendKept k d)
  | row _ h =>
    obtain ⟨st, c, rfl, -⟩ := takesRow_enter h
    exact .inl (s.enter_sendKept st c)
  | smDue => exact .inl (s.disarm .sm).smExpired_sendKept
  | openDue => exact .inl (s.disarm .opn).openExpired_sendKept
  | _ => exact .inl (sendKept_of_eq rfl rfl rfl rfl)

theorem Effect.sendKept (e : Effect s i t) (hbusy : s.txBusy = true) (htick : i ≠ .tick) (hexpire : i ≠ .tTxExpire) :
    sendKept s t := by
  rcases e.sendKept_or hbusy with h | ⟨hi, -⟩ | ⟨hi, -⟩
  · exact h
  · exact absurd hi htick
  · exact absurd hi hexpire

/-- T_TX.EXPIRE sends the stored frame once more or ends the SEND. -/
theorem State.txExpired_txFrame (s : State) (hstill : s.txExpired.txBusy = true) : s.txExpired.txFrame = s.txFrame := by
  rcases s.txExpired_cases with ⟨h, -⟩ | ⟨-, -, h⟩ | ⟨-, h⟩ <;> rw [h] at hstill ⊢
  · rfl
  · cases hstill

theorem Effect.txFrame_kept (e : Effect s i t) (hbusy : s.txBusy = true) (hstill : t.txBusy = true) : t.txFrame = s.txFrame := by
  rcases e.sendKept_or hbusy with h | ⟨-, hframe⟩ | ⟨-, rfl⟩
  · exact (h hstill).2.1
  · exact hframe
  · exact (s.disarm .tx).txExpired_txFrame hstill

end

end Sys2Proof.Machine

namespace Sys2Proof.Safety

open Machine

/-- Settles O50: the effect of each step proper moves the counters in the ways listed. -/
theorem countersOnlyAdvance : Obligations.CountersOnlyAdvance := fun _ _ _ hi h => (exec_effect h).counterMoves hi

/-- Settles O52: no effect writes the parameters, and every message is put at the end of the record. -/
theorem parametersConstant : Obligations.ParametersConstant := fun _ _ _ h => ⟨(exec_effect h).cfg_eq, exec_out_grows h⟩

/-- Settles O55: the frame is written by the acceptance of a SEND and by its end alone. -/
theorem sendFrameUnchanged : Obligations.SendFrameUnchanged := fun _ _ _ h => (exec_effect h).txFrame_kept

end Sys2Proof.Safety

namespace Sys2Proof.Machine

open Safety

/-! ### The ledgers of OPEN and SEND (R172, R212) -/

/-- Results of accepted OPEN commands given, and the one that is still due. -/
def openTally (s : State) : Nat := openResults s.out + count s.openPending

/-- Results of SEND given, and those still due: of the one in flight and of the stalled ones. -/
def sendTally (s : State) : Nat := sendResults s.out + count s.txBusy + s.hcWait.length

@[simp] theorem count_true : count true = 1 := rfl

@[simp] theorem count_false : count false = 0 := rfl

theorem openResults_append (l m : List OutMsg) : openResults (l ++ m) = openResults l + openResults m := List.countP_append

theorem sendResults_append (l m : List OutMsg) : sendResults (l ++ m) = sendResults l + sendResults m := List.countP_append

/-- Neither ledger has moved. -/
def balanced (s t : State) : Prop := openTally t = openTally s ∧ sendTally t = sendTally s

theorem balanced_refl (s : State) : balanced s s := ⟨rfl, rfl⟩

section
variable {s t u : State}

theorem balanced_trans (h : balanced s t) (h' : balanced t u) : balanced s u := ⟨h'.1.trans h.1, h'.2.trans h.2⟩

/-- Messages that are no results, with the same commands still due. -/
theorem balanced_of_new {new : List OutMsg} (hout : t.out = s.out ++ new) (hpending : t.openPending = s.openPending)
    (hbusy : t.txBusy = s.txBusy) (hwait : t.hcWait = s.hcWait) (hopen : openResults new = 0) (hsend : sendResults new = 0) :
    balanced s t := by
  simp only [balanced, openTally, sendTally, hout, openResults_append, sendResults_append, hpending, hbusy, hwait, hopen, hsend,
    Nat.add_zero, and_self]

theorem balanced_of_eq (hout : t.out = s.out) (hpending : t.openPending = s.openPending) (hbusy : t.txBusy = s.txBusy)
    (hwait : t.hcWait = s.hcWait) : balanced s t :=
  balanced_of_new (new := []) (by rw [hout, List.append_nil]) hpending hbusy hwait rfl rfl

/-- The end of the SEND in flight gives its result (R216, R218, R220). -/
theorem balanced_of_sendDone {r : ResultCode} (hbusy : s.txBusy = true) (hout : t.out = s.out ++ [.hr .send r])
    (hpending : t.openPending = s.openPending) (hidle : t.txBusy = false) (hwait : t.hcWait = s.hcWait) : balanced s t := by
  have hopen : openResults [OutMsg.hr .send r] = 0 := rfl
  have hsend : sendResults [OutMsg.hr .send r] = 1 := rfl
  simp only [balanced, openTally, sendTally, hout, openResults_append, sendResults_append, hpending, hbusy, hidle, hwait, hopen,
    hsend, count_true, count_false, Nat.add_zero, and_self]

/-- The end of the pending OPEN gives its result (R172, R175). -/
theorem balanced_of_openDone {r : ResultCode} (hr : r ≠ .invalidState) (hpending : s.openPending = true)
    (hout : t.out = s.out ++ [.hr .opn r]) (hdone : t.openPending = false) (hbusy : t.txBusy = s.txBusy)
    (hwait : t.hcWait = s.hcWait) : balanced s t := by
  have hopen : openResults [OutMsg.hr .opn r] = 1 := by simp [openResults, hr]
  have hsend : sendResults [OutMsg.hr .opn r] = 0 := rfl
  simp only [balanced, openTally, sendTally, hout, openResults_append, sendResults_append, hpending, hbusy, hdone, hwait, hopen,
    hsend, count_true, count_false, Nat.add_zero, and_self]

end

section
variable (s : State)

theorem State.emit_balanced (f : Bytes) : balanced s (s.emit f) :=
  balanced_of_new (new := [.tq (.tSend f) s.nextAnswer]) rfl rfl rfl rfl rfl rfl

theorem State.endSend_balanced (r : ResultCode) (hbusy : s.txBusy = true) : balanced s (s.endSend r) :=
  balanced_of_sendDone hbusy rfl rfl rfl rfl

theorem State.dispatch_balanced (k : PacketKind) (d : Packet) : balanced s (s.dispatch k d) := by
  rcases s.dispatch_cases k d with h | ⟨h, -⟩ | ⟨h, -⟩ | ⟨h, -⟩ | ⟨h, -⟩ | ⟨h, -⟩ | ⟨h, -⟩ <;> rw [h]
  · exact balanced_refl s
  · exact balanced_of_eq rfl rfl rfl rfl
  · exact balanced_of_eq rfl rfl rfl rfl
  · exact s.emit_balanced _
  · exact s.emit_balanced _
  · rcases s.onAck_cases d with ⟨h, -⟩ | h | ⟨h, -⟩ | ⟨h, hbusy⟩ <;> rw [h]
    · exact balanced_refl s
    · exact balanced_of_eq rfl rfl rfl rfl
    · exact balanced_of_eq rfl rfl rfl rfl
    · exact balanced_of_sendDone hbusy rfl rfl rfl rfl
  · rcases s.onData_cases d with ⟨h, -⟩ | ⟨h, -⟩ <;> rw [h]
    · refine balanced_trans (State.emit_balanced { s with ackNum := seqIncr s.ackNum } (ackFrameOf s.cfg (seqIncr s.ackNum))) ?_
      exact balanced_of_new (new := [.up (.data d.payload)]) rfl rfl rfl rfl rfl rfl
    · exact s.emit_balanced _

theorem State.rxFrame_balanced (chunk : Bytes) (ovf : Bool) : balanced s (s.rxFrame chunk ovf) := by
  rcases s.rxFrame_cases chunk ovf with ⟨e, h⟩ | ⟨k, d, h⟩ <;> rw [h]
  · exact balanced_of_new (new := [.up (.log (.decodeError e (s.errCount + 1)))]) rfl rfl rfl rfl rfl rfl
  · exact s.dispatch_balanced k d

theorem State.consume_balanced (b : Byte) : balanced s (s.consume b) := by
  rcases s.consume_cases b with ⟨h, -⟩ | ⟨h, -⟩ | ⟨h, -⟩ | ⟨h, -⟩ | ⟨h, -⟩ | ⟨h, -⟩ <;> rw [h]
  case inr.inl => exact State.rxFrame_balanced { s with rxBuf := [], rxOvf := false } s.chunk s.rxOvf
  all_goals exact balanced_of_eq rfl rfl rfl rfl

end

theorem State.consumeAll_balanced (bs : Bytes) (s : State) : balanced s (State.consumeAll bs s) := by
  induction bs generalizing s with
  | nil => exact balanced_refl s
  | cons b rest ih => exact balanced_trans (State.consume_balanced { s with inbound := rest } b) (ih _)

section
variable (s : State)

theorem State.entryAction_balanced (st : ConnState) : balanced s (s.entryAction st) := by
  cases st with
  | reset => exact s.emit_balanced _
  | uninitialized => exact State.emit_balanced { s with retryCnt := fullBudget s.cfg } _
  | initialized => exact State.emit_balanced { s with retryCnt := fullBudget s.cfg } _
  | active | start | failed | noResponse | closed => exact balanced_of_eq rfl rfl rfl rfl

theorem openResult_ne_invalidState {st : ConnState} {r : ResultCode} (h : openResult st = some r) : r ≠ .invalidState := by
  rintro rfl
  cases st <;> cases h

theorem State.completeOpen_balanced (st : ConnState) : balanced s (s.completeOpen st) := by
  unfold State.completeOpen
  split
  · next r hr =>
    split
    · next hpending => exact balanced_of_openDone (openResult_ne_invalidState hr) hpending rfl rfl rfl rfl
    · exact balanced_refl s
  · exact balanced_refl s

theorem State.enter_balanced (st : ConnState) (c : Cause) : balanced s (s.enter st c) := by
  have hstatus : balanced s (({ s with state := st, exit := s.exit.clearPerState }.disarm .sm).status st c) :=
    balanced_of_new (new := [.up (.status st c)]) rfl rfl rfl rfl rfl rfl
  exact balanced_trans hstatus (balanced_trans (State.entryAction_balanced _ st) (State.completeOpen_balanced _ st))

theorem State.retryHandshake_balanced (f : Bytes) : balanced s (s.retryHandshake f) := by
  rcases s.retryHandshake_cases f with h | h | ⟨-, h⟩ <;> rw [h]
  · exact balanced_refl s
  · exact balanced_of_eq rfl rfl rfl rfl
  · exact s.emit_balanced f

theorem State.smExpired_balanced : balanced s s.smExpired := by
  rcases s.smExpired_cases with h | ⟨-, h⟩ | ⟨-, f, h⟩ <;> rw [h]
  · exact balanced_refl s
  · exact balanced_of_eq rfl rfl rfl rfl
  · exact s.retryHandshake_balanced f

theorem State.txExpired_balanced : balanced s s.txExpired := by
  rcases s.txExpired_cases with ⟨h, -⟩ | ⟨-, -, h⟩ | ⟨hbusy, h⟩ <;> rw [h]
  · exact balanced_refl s
  · exact s.emit_balanced s.txFrame
  · exact balanced_of_sendDone hbusy rfl rfl rfl rfl

theorem State.openExpired_balanced : balanced s s.openExpired := by
  rcases s.openExpired_cases with ⟨h, -⟩ | ⟨h, hpending⟩ <;> rw [h]
  · exact balanced_refl s
  · exact balanced_of_openDone (by decide) hpending rfl rfl rfl rfl

/-- A SEND that is tested gets its result at once or is in flight from then on (R213). -/
theorem State.acceptSend_tally (p : Bytes) (hidle : s.txBusy = false) :
    openTally (s.acceptSend p) = openTally s ∧ sendTally (s.acceptSend p) = sendTally s + 1 := by
  rcases s.acceptSend_cases p with ⟨r, h⟩ | ⟨-, -, h⟩ <;> rw [h]
  · have hopen : openTally (s.complete .send r) = openResults (s.out ++ [.hr .send r]) + count s.openPending := rfl
    have hsend : sendTally (s.complete .send r) = sendResults (s.out ++ [.hr .send r]) + count s.txBusy + s.hcWait.length := rfl
    rw [hopen, hsend, openResults_append, sendResults_append]
    exact ⟨rfl, by simp only [sendTally, sendResults, List.countP_singleton]; simp; omega⟩
  · obtain ⟨a, n, -, hstart⟩ := s.startSend_answered p
    rw [hstart]
    simp only [openTally, sendTally, openResults_append, sendResults_append, hidle]
    exact ⟨rfl, by simp [sendResults, count]; omega⟩

end

/-- The operation is a SEND presented on HC (R108). -/
def presentsSend (i : Instr) : Bool :=
  match i with
  | .hostSend _ => true
  | _ => false

/-- The two ledgers after an operation: an accepted OPEN and a presented SEND are the only entries. -/
def entries (s : State) (i : Instr) (t : State) : Prop :=
  openTally t = openTally s + count (i == .hostOpen && !s.linkOpen) ∧ sendTally t = sendTally s + count (presentsSend i)

section
variable {s t : State} {i : Instr}

/-- The commands that enter a ledger. -/
def entersLedger (i : Instr) : Prop := i = .hostOpen ∨ ∃ p, i = .hostSend p

theorem entries_of_balanced (h : balanced s t) (hi : ¬ entersLedger i) : entries s i t := by
  have hopen : (i == .hostOpen) = false := beq_eq_false_iff_ne.2 fun h => hi (.inl h)
  have hsend : presentsSend i = false := by
    unfold presentsSend
    split
    · next p => exact absurd (.inr ⟨p, rfl⟩) hi
    · rfl
  unfold entries
  rw [hsend, hopen]
  exact h

theorem not_entersLedger_of_isPort (h : isPort i) : ¬ entersLedger i := by
  rintro (rfl | ⟨p, rfl⟩) <;> simp [isPort] at h

theorem not_entersLedger_of_own (h : i ∈ ownSteps) : ¬ entersLedger i := by
  rintro (rfl | ⟨p, rfl⟩) <;> simp [ownSteps] at h

theorem not_entersLedger_of_piece (h : isStep i = false) : ¬ entersLedger i := by
  rintro (rfl | ⟨p, rfl⟩) <;> cases h

/-- An accepted OPEN is pending from then on; nothing else was due on a closed link (R52 (f), R171). -/
theorem entries_of_opened (hclosed : s.linkOpen = false) (hidle : s.txBusy = false) (hpending : s.openPending = false) :
    entries s .hostOpen s.loadOpen.openTransport := by
  have hopen : openTally s.loadOpen.openTransport = openResults (s.out ++ [.tq .tOpen s.loadOpen.nextAnswer]) + count true := rfl
  have hsend : sendTally s.loadOpen.openTransport
      = sendResults (s.out ++ [.tq .tOpen s.loadOpen.nextAnswer]) + count false + s.hcWait.length := rfl
  unfold entries
  rw [hopen, hsend, openResults_append, sendResults_append]
  simp only [openTally, sendTally, hpending, hidle, hclosed]
  exact ⟨rfl, rfl⟩

/-- A refused OPEN is answered `InvalidState`, which is no result of an accepted one (R171). -/
theorem entries_of_openRefused (hopen : s.linkOpen = true) : entries s .hostOpen (s.put (.hr .opn .invalidState)) := by
  have h : balanced s (s.put (.hr .opn .invalidState)) :=
    balanced_of_new (new := [.hr .opn .invalidState]) rfl rfl rfl rfl rfl rfl
  unfold balanced at h
  simpa [entries, hopen, presentsSend] using h

theorem Effect.entries (h : Inv s) (e : Effect s i t) (hi : i ≠ .hwReset) : entries s i t := by
  cases e with
  | reset => exact absurd rfl hi
  | opened hclosed =>
    obtain ⟨-, hidle, hpending, -⟩ := h.closed hclosed
    exact entries_of_opened hclosed hidle hpending
  | openRefused hopen => exact entries_of_openRefused hopen
  | stalled p => exact ⟨rfl, by simp [sendTally, presentsSend, Nat.add_assoc]⟩
  | presented p hidle => exact s.acceptSend_tally p hidle
  | closing => exact entries_of_balanced (balanced_of_eq rfl rfl rfl rfl) (by simp [entersLedger])
  | closeRefused =>
    exact entries_of_balanced (balanced_of_new (new := [.hr .close .invalidState]) rfl rfl rfl rfl rfl rfl) (by simp [entersLedger])
  | answered r hport =>
    exact entries_of_balanced (balanced_of_new (new := [.fn r]) rfl rfl rfl rfl rfl rfl) (not_entersLedger_of_isPort hport)
  | faulted => exact entries_of_balanced (balanced_of_eq rfl rfl rfl rfl) (by simp [entersLedger])
  | data => exact entries_of_balanced (balanced_of_eq rfl rfl rfl rfl) (by simp [entersLedger])
  | status => exact entries_of_balanced (balanced_of_eq rfl rfl rfl rfl) (by simp [entersLedger])
  | logged sev m =>
    exact entries_of_balanced (balanced_of_new (new := [.up (.log (.transport sev m))]) rfl rfl rfl rfl rfl rfl)
      (by simp [entersLedger])
  | token bs hpiece =>
    exact entries_of_balanced (State.consumeAll_balanced (s.inbound ++ bs) (s.indicate bs)) (not_entersLedger_of_piece hpiece)
  | @byte b rest => exact entries_of_balanced (State.consume_balanced { s with inbound := rest } b) (by simp [entersLedger])
  | chunk bs ovf => exact entries_of_balanced (s.rxFrame_balanced bs ovf) (by simp [entersLedger])
  | packet k d hpiece => exact entries_of_balanced (s.dispatch_balanced k d) (not_entersLedger_of_piece hpiece)
  | frame f hpiece => exact entries_of_balanced (s.emit_balanced f) (not_entersLedger_of_piece hpiece)
  | row hown hrow =>
    obtain ⟨st, c, rfl, -⟩ := takesRow_enter hrow
    exact entries_of_balanced (s.enter_balanced st c) (not_entersLedger_of_own hown)
  | closed =>
    exact entries_of_balanced
      (balanced_of_new (new := [.tq .tClose s.nextAnswer, .hr .close (closeResult s.nextAnswer)])
        (by simp [State.closeLink]) rfl rfl rfl rfl rfl)
      (by simp [entersLedger])
  | aborted r hcan => exact entries_of_balanced (s.endSend_balanced r (State.canTxAbort_iff.1 hcan).1) (by simp [entersLedger])
  | smDue => exact entries_of_balanced (s.disarm .sm).smExpired_balanced (by simp [entersLedger])
  | txDue => exact entries_of_balanced (s.disarm .tx).txExpired_balanced (by simp [entersLedger])
  | openDue => exact entries_of_balanced (s.disarm .opn).openExpired_balanced (by simp [entersLedger])
  | tick => exact entries_of_balanced (balanced_of_eq rfl rfl rfl rfl) (by simp [entersLedger])
  | idle hidle =>
    exact entries_of_balanced (balanced_refl s) (hidle.elim not_entersLedger_of_piece not_entersLedger_of_own)


end

/-! ### A closed link (R52 (f), R262, R266) -/

/-- The reassembler of a closed link: off and empty (R174). -/
def emptyRx (s : State) : Prop := s.receiving = false ∧ s.rxSync = false ∧ s.rxBuf = [] ∧ s.rxOvf = false

section
variable {s t : State} {i : Instr}

theorem emptyRx_of_closed (h : Inv s) (hclosed : s.linkOpen = false) : emptyRx s := by
  obtain ⟨-, -, hquiet, hoff⟩ := h.rxBuffer
  obtain ⟨hbuf, hovf⟩ := hquiet (hoff hclosed)
  exact ⟨by simp [State.receiving, hclosed], hoff hclosed, hbuf, hovf⟩

theorem State.setRx_self {rxSync : Bool} {rxBuf : Bytes} {rxOvf : Bool} (hsync : s.rxSync = rxSync) (hbuf : s.rxBuf = rxBuf)
    (hovf : s.rxOvf = rxOvf) : { s with rxSync, rxBuf, rxOvf } = s := by
  subst hsync hbuf hovf
  rfl

/-- A byte finds nothing to clear. -/
theorem State.consume_emptyRx (h : emptyRx s) (b : Byte) : s.consume b = s := by
  obtain ⟨hr, hsync, hbuf, hovf⟩ := h
  exact (State.consume_off b hr).trans (State.setRx_self hsync hbuf hovf)

theorem State.consumeAll_emptyRx (bs : Bytes) (h : emptyRx s) :
    State.consumeAll bs s = { s with inbound := (State.consumeAll bs s).inbound } := by
  induction bs generalizing s with
  | nil => rfl
  | cons b rest ih =>
    have hb : ({ s with inbound := rest } : State).consume b = { s with inbound := rest } :=
      State.consume_emptyRx (s := { s with inbound := rest }) h b
    rw [State.consumeAll, hb]
    exact ih h

theorem State.dispatch_terminal (hst : isTerminal s.state = true) (k : PacketKind) (d : Packet) : s.dispatch k d = s := by
  have hne : s.state ≠ .uninitialized ∧ s.state ≠ .initialized ∧ s.state ≠ .active := by
    refine ⟨?_, ?_, ?_⟩ <;> intro h <;> simp [h, isTerminal] at hst
  obtain ⟨huninit, hinit, hactive⟩ := hne
  rcases s.dispatch_cases k d with h | ⟨-, h | h⟩ | ⟨-, h⟩ | ⟨-, h | h⟩ | ⟨-, h | h⟩ | ⟨-, h⟩ | ⟨-, h⟩
  · exact h
  all_goals contradiction

theorem Timer.tick_unarmed {v : Timer} (h : v.armed = false) : v.tick = v := by simp [Timer.tick, h]

/-- The operations that may act on a closed link (R266): host commands, the codec ports, T_LOG and hardware reset. -/
def actsWhenClosed (i : Instr) : Prop := isHost i ∨ isPort i ∨ i = .hwReset ∨ ∃ v m, i = .tLog v m

/-- New messages without a request on TQ (R262). -/
def requestsNothing (s t : State) : Prop := ∃ new, t.out = s.out ++ new ∧ ∀ r a, OutMsg.tq r a ∉ new

theorem requestsNothing_of_eq (h : t.out = s.out) : requestsNothing s t := ⟨[], by rw [h, List.append_nil], by simp⟩

theorem requestsNothing_of_put {o : OutMsg} (h : t.out = s.out ++ [o]) (ho : ∀ r a, OutMsg.tq r a ≠ o) : requestsNothing s t :=
  ⟨[o], h, fun r a hm => ho r a (List.mem_singleton.1 hm)⟩

/-- What an operation may do on a closed link: open it, act without a request, or take bytes off the stream. -/
def closedMoves (s : State) (i : Instr) (t : State) : Prop :=
  (i = .hostOpen ∧ ∃ a, t.out = s.out ++ [.tq .tOpen a]) ∨ (actsWhenClosed i ∧ requestsNothing s t)
    ∨ t = { s with inbound := t.inbound }

theorem closedMoves_of_expired {v : Timer} (hv : v.armed = false) (h : v.expired = true) : closedMoves s i t := by
  obtain ⟨ha, -⟩ := v.expired_iff.1 h
  simp [hv] at ha

/-- On a closed link every guard of the block's own steps is down (R52 (f)). -/
theorem Effect.closedMoves (h : Inv s) (hclosed : s.linkOpen = false) (e : Effect s i t) : closedMoves s i t := by
  obtain ⟨hterminal, hidle, hpending, hclosing, hsm, htx, hopn⟩ := h.closed hclosed
  have hrx := emptyRx_of_closed h hclosed
  have hlink : s.linkOpen ≠ true := by simp [hclosed]
  cases e with
  | opened => exact .inl ⟨rfl, s.loadOpen.nextAnswer, rfl⟩
  | openRefused hopen | closing hopen | frame _ _ hopen => exact absurd hopen hlink
  | reset => exact .inr (.inl ⟨.inr (.inr (.inl rfl)), requestsNothing_of_eq rfl⟩)
  | closeRefused => exact .inr (.inl ⟨.inl (.inr (.inl rfl)), requestsNothing_of_put rfl (by simp)⟩)
  | stalled p hbusy => exact absurd hbusy (by simp [hidle])
  | presented p =>
    have hstate : s.state ≠ .active := by rintro hs; simp [hs, isTerminal] at hterminal
    rw [State.acceptSend_outside_active hstate]
    exact .inr (.inl ⟨.inl (.inr (.inr ⟨p, rfl⟩)), requestsNothing_of_put rfl (by simp)⟩)
  | answered r hport => exact .inr (.inl ⟨.inr (.inl hport), requestsNothing_of_put rfl (by simp)⟩)
  | faulted p seq reliable integrity =>
    exact .inr (.inl ⟨.inr (.inl (.inr (.inr (.inl ⟨p, seq, _, reliable, integrity, _, rfl⟩)))), requestsNothing_of_eq rfl⟩)
  | data => exact .inr (.inr rfl)
  | status => exact .inr (.inr (by simp [hclosed]))
  | logged sev m => exact .inr (.inl ⟨.inr (.inr (.inr ⟨sev, m, rfl⟩)), requestsNothing_of_put rfl (by simp)⟩)
  | token bs => exact .inr (.inr (State.consumeAll_emptyRx (s := s.indicate bs) (s.inbound ++ bs) hrx))
  | @byte b rest => exact .inr (.inr (by rw [State.consume_emptyRx (s := { s with inbound := rest }) hrx]))
  | chunk _ _ hr => exact absurd hr (by simp [hrx.1])
  | packet k d => exact .inr (.inr (by rw [State.dispatch_terminal hterminal]))
  | row _ hrow =>
    obtain ⟨st, c, -, hopen, -⟩ := takesRow_enter hrow
    simp [hterminal] at hopen
  | closed hcan => exact absurd (s.canCloseDone_iff.1 hcan).1 (by simp [hclosing])
  | aborted r hcan => exact absurd (State.canTxAbort_iff.1 hcan).1 (by simp [hidle])
  | smDue hdue => exact closedMoves_of_expired hsm hdue
  | txDue hdue => exact closedMoves_of_expired htx hdue
  | openDue hdue => exact closedMoves_of_expired hopn hdue
  | tick => exact .inr (.inr (by rw [Timer.tick_unarmed hsm, Timer.tick_unarmed htx, Timer.tick_unarmed hopn]))
  | idle => exact .inr (.inr rfl)

end

end Sys2Proof.Machine

namespace Sys2Proof.Safety

open Machine

/-- Settles O53: the ledger of OPEN has one entry for each acceptance and is balanced in every other step. -/
theorem oneResultPerOpen : Obligations.OneResultPerOpen := fun _ _ _ hinv hi h => ((exec_effect h).entries hinv hi).1

/-- Settles O54: the ledger of SEND has one entry for each command presented and is balanced in every other step. -/
theorem oneResultPerSend : Obligations.OneResultPerSend := fun _ _ _ hinv hi h => ((exec_effect h).entries hinv hi).2

/-- Settles O56: OPEN issues its T_OPEN, what else acts on a closed link issues no request, and the rest puts nothing out. -/
theorem noRequestWhileClosed : Obligations.NoRequestWhileClosed := by
  intro s t i hinv hclosed h
  rcases (exec_effect h).closedMoves hinv hclosed with ⟨rfl, a, hout⟩ | ⟨-, new, hout, hnone⟩ | hquiet
  · refine ⟨_, hout, fun r b hm => ⟨?_, rfl⟩⟩
    simp only [List.mem_singleton, OutMsg.tq.injEq] at hm
    exact hm.1
  · exact ⟨new, hout, fun r a hm => absurd hm (hnone r a)⟩
  · exact ⟨[], by rw [hquiet, List.append_nil], by simp⟩

/-- Settles O57: the operations left out are those that act on a closed link; every other takes bytes off the stream at most. -/
theorem closedIsQuiescent : Obligations.ClosedIsQuiescent := by
  intro s t i hinv hclosed _ hopen hclose hreset hsend hlog hfe hfd hpe hpd hseq h
  rcases (exec_effect h).closedMoves hinv hclosed with ⟨rfl, -⟩ | ⟨hacts, -⟩ | hquiet
  · exact absurd rfl hopen
  · rcases hacts with (rfl | rfl | ⟨p, rfl⟩) | hport | rfl | ⟨v, m, rfl⟩
    · exact absurd rfl hopen
    · exact absurd rfl hclose
    · exact absurd rfl (hsend p)
    · rcases hport with ⟨p, rfl⟩ | ⟨f, rfl⟩ | ⟨p, q, a, r, g, y, rfl⟩ | ⟨k, rfl⟩ | ⟨n, rfl⟩
      · exact absurd rfl (hfe p)
      · exact absurd rfl (hfd f)
      · exact absurd rfl (hpe p q a r g y)
      · exact absurd rfl (hpd k)
      · exact absurd rfl (hseq n)
    · exact absurd rfl hreset
    · exact absurd rfl (hlog v m)
  · exact hquiet

end Sys2Proof.Safety

namespace Sys2Proof.Machine

open Safety

/-! ### No operation looks at the fault bit (R247) -/

section
variable {s t u v : State} {b : Bool} {i : Instr}

theorem next_setFlt (h : v = { u with flt := b }) (ht : (Host.Outcome.next u : Host.Outcome State Fault Refusal) = .next t) :
    (Host.Outcome.next v : Host.Outcome State Fault Refusal) = .next { t with flt := b } := by
  cases ht
  rw [h]

theorem ite_setFlt {p : Prop} [Decidable p] {v1 v2 u1 u2 : State} (h1 : v1 = { u1 with flt := b }) (h2 : v2 = { u2 with flt := b }) :
    (if p then v1 else v2) = { (if p then u1 else u2) with flt := b } := by
  split <;> assumption

theorem execRxByte_setFlt (h : execRxByte s = .next t) : execRxByte { s with flt := b } = .next { t with flt := b } := by
  unfold execRxByte at h ⊢
  split at h
  · next hempty =>
    cases h
    simp only [hempty]
  · next x rest hbytes => simp only [hbytes]; exact next_setFlt (State.consume_setFlt { s with inbound := rest } b x) h

theorem State.onAck_setFlt (d : Packet) : ({ s with flt := b } : State).onAck d = { s.onAck d with flt := b } :=
  ite_setFlt (ite_setFlt rfl rfl) (ite_setFlt rfl rfl)

theorem State.onData_setFlt (d : Packet) : ({ s with flt := b } : State).onData d = { s.onData d with flt := b } :=
  ite_setFlt rfl rfl

/-- With the bit set, every operation but hardware reset does what it does without. -/
theorem exec_setFlt (hi : i ≠ .hwReset) (h : exec i s = .next t) :
    exec i { s with flt := true } = .next { t with flt := true } := by
  cases i with
  | hwReset => exact absurd rfl hi
  | delim | escDelimToken | escEscToken | literal _ | escInvalid _ => exact next_setFlt (State.receive_setFlt s true _) h
  | kAck d => exact next_setFlt (State.dispatch_setFlt s true .ack d) h
  | kData d => exact next_setFlt (State.dispatch_setFlt s true .data d) h
  | kSync d => exact next_setFlt (State.dispatch_setFlt s true .sync d) h
  | kSyncRsp d => exact next_setFlt (State.dispatch_setFlt s true .syncRsp d) h
  | kConfig d => exact next_setFlt (State.dispatch_setFlt s true .config d) h
  | kConfigRsp d => exact next_setFlt (State.dispatch_setFlt s true .configRsp d) h
  | kDataUnrel _ | kReset _ | kOther _ => exact next_setFlt rfl h
  | resetFrame | syncFrame | syncRspFrame | configFrame | configRspFrame | ackFrame _ =>
    exact next_setFlt (State.emitIfOpen_setFlt s true _) h
  | dataFrame _ _ _ => exact next_setFlt (ite_setFlt (State.emitIfOpen_setFlt s true _) rfl) h
  | frameEncode _ | frameDecode _ | pktDecode _ | seqInc _ | tLog _ _ | tData _ | tStatus _ _ => exact next_setFlt rfl h
  | pktEncode p seq ack reliable integrity type =>
    refine next_setFlt ?_ h
    show State.putEncoded (encodePkt s.cfg p seq ack reliable integrity type) _ = _
    cases encodePkt s.cfg p seq ack reliable integrity type <;> rfl
  | hostOpen => exact next_setFlt (ite_setFlt rfl rfl) h
  | hostClose => exact next_setFlt (ite_setFlt rfl rfl) h
  | hostSend p => exact next_setFlt (ite_setFlt rfl (State.acceptSend_setFlt s true p)) h
  | rxByte => exact execRxByte_setFlt h
  | rxFrame chunk ovf => exact s.guarded_setFlt (State.rxFrame_setFlt s true chunk ovf) h
  | rxSyncRsp | rxSync | rxSyncActive | rxConfigRsp | rxConfig | tick => exact s.guarded_setFlt rfl h
  | rxAck d => exact s.guarded_setFlt (State.onAck_setFlt d) h
  | rxData d => exact s.guarded_setFlt (State.onData_setFlt d) h
  | seqStart | seqReset | seqUninitOk | seqUninitNr | seqInitOk | seqInitNr => exact s.guarded_setFlt (State.enter_setFlt s true _ _) h
  | seqAbort | seqActive => exact s.guarded_setFlt (ite_setFlt (State.enter_setFlt s true _ _) (State.enter_setFlt s true _ _)) h
  | closeDone => exact s.guarded_setFlt (State.closeLink_setFlt s true) h
  | txAbort => exact s.guarded_setFlt (ite_setFlt rfl rfl) h
  | tSmExpire => exact s.guarded_setFlt (State.smExpired_setFlt (s.disarm .sm) true) h
  | tTxExpire => exact s.guarded_setFlt (State.txExpired_setFlt (s.disarm .tx) true) h
  | tOpenExpire => exact s.guarded_setFlt (State.openExpired_setFlt (s.disarm .opn) true) h

/-! ### A state at rest (R50, R112; log 26) -/

/-- No step of the sequencer or of the transmit engine is enabled. -/
theorem State.enabledStep_eq_none_iff (s : State) : s.enabledStep = none ↔
    s.canSeqAbort = false ∧ s.canSeqStart = false ∧ s.canSeqReset = false ∧ s.canSeqUninitOk = false ∧ s.canSeqUninitNr = false
      ∧ s.canSeqInitOk = false ∧ s.canSeqInitNr = false ∧ s.canSeqActive = false ∧ s.canCloseDone = false
      ∧ s.canTxAbort = false := by
  simp only [State.enabledStep, ite_eq_right_iff, reduceCtorEq, imp_false, Bool.not_eq_true, ite_eq_iff, and_false, false_or]

theorem State.atRest_iff (s : State) : s.atRest = true ↔
    s.agenda = [] ∧ s.inbound = [] ∧ s.hcWait = [] ∧ s.tSm.armed = false ∧ s.tTx.armed = false ∧ s.tOpen.armed = false
      ∧ s.enabledStep = none := by
  simp [State.atRest, and_assoc]

theorem Timer.expired_of_unarmed {v : Timer} (h : v.armed = false) : v.expired = false := by simp [Timer.expired, h]

theorem State.guarded_of_false {g : Bool} (hg : g = false) (s t : State) : s.guarded g t = .next s := by
  rw [hg, State.guarded_false]

/-- At rest, no step of the block's own agents does anything. -/
theorem exec_own_of_atRest (h : s.atRest = true) (hi : i ∈ ownSteps) : exec i s = .next s := by
  obtain ⟨-, hin, -, hsm, htx, hopn, henabled⟩ := s.atRest_iff.1 h
  obtain ⟨h1, h2, h3, h4, h5, h6, h7, h8, h9, h10⟩ := s.enabledStep_eq_none_iff.1 henabled
  have htick : exec .tick s = .next s := by
    have he : exec .tick s = s.guarded s.canTick { s with tSm := s.tSm.tick, tTx := s.tTx.tick, tOpen := s.tOpen.tick } := rfl
    rw [he, Timer.tick_unarmed hsm, Timer.tick_unarmed htx, Timer.tick_unarmed hopn]
    cases s.canTick <;> rfl
  have hrx : exec .rxByte s = .next s := by simp only [exec, execRxByte, hin]
  simp only [ownSteps, List.mem_cons, List.not_mem_nil, or_false] at hi
  rcases hi with rfl | rfl | rfl | rfl | rfl | rfl | rfl | rfl | rfl | rfl | rfl | rfl | rfl | rfl | rfl
  · exact hrx
  · exact State.guarded_of_false h1 s _
  · exact State.guarded_of_false h2 s _
  · exact State.guarded_of_false h3 s _
  · exact State.guarded_of_false h4 s _
  · exact State.guarded_of_false h5 s _
  · exact State.guarded_of_false h6 s _
  · exact State.guarded_of_false h7 s _
  · exact State.guarded_of_false h8 s _
  · exact State.guarded_of_false h9 s _
  · exact State.guarded_of_false h10 s _
  · exact State.guarded_of_false (Timer.expired_of_unarmed hsm) s _
  · exact State.guarded_of_false (Timer.expired_of_unarmed htx) s _
  · exact State.guarded_of_false (Timer.expired_of_unarmed hopn) s _
  · exact htick

theorem step_of_message {m : Message} {rest : List Message} (hcfg : cfgValid s.cfg = true) (hagenda : s.agenda = m :: rest)
    (hi : decode s.cfg m = .ok i) : step s = exec i { s with agenda := rest } := by
  simp [step, State.configured, hcfg, State.fetch, hagenda, hi]

theorem step_of_nothing (hcfg : cfgValid s.cfg = true) (hagenda : s.agenda = []) : step s = .next s := by
  simp [step, State.configured, hcfg, State.fetch, hagenda]

theorem step_of_invalid (hcfg : cfgValid s.cfg = false) : step s = .fault .invalidConfiguration := by
  simp [step, State.configured, hcfg]

theorem State.final_of_faulted (h : s.flt = true) : s.final = false := by simp [State.final, State.faulted, h]

theorem State.final_of_notFaulted (h : notFaulted s) : s.final = s.atRest := by
  have hf : s.faulted = false := h
  simp [State.final, hf]

theorem State.final_iff (s : State) : s.final = true ↔ s.atRest = true ∧ notFaulted s := by
  simp [State.final, notFaulted]

end

end Sys2Proof.Machine

namespace Sys2Proof.Safety

open Machine

/-- The bit after an operation on a state without it: PKT.ENCODE of an ACK without a number sets it, nothing else does (R151). -/
theorem flt_iff_of_notFaulted {s t : State} {i : Instr} (hclear : notFaulted s) (h : exec i s = .next t) :
    t.flt = true ↔ ∃ p seq r g, i = .pktEncode p seq 0xFF r g 0 := by
  have hs : s.flt = false := hclear
  constructor
  · intro hset
    rcases (exec_effect h).flt_cases with heq | ⟨-, heq⟩ | hencode
    · simp [heq, hs] at hset
    · simp [heq] at hset
    · exact hencode
  · rintro ⟨p, seq, r, g, rfl⟩
    rw [(pktEncodePort s p seq 0xFF r g 0).1 ⟨rfl, rfl⟩] at h
    cases h
    rfl

/-- A set bit outlasts every operation but hardware reset (R247). -/
theorem flt_kept {s t : State} {i : Instr} (hset : s.flt = true) (hi : i ≠ .hwReset) (h : exec i s = .next t) : t.flt = true := by
  have hsame : ({ s with flt := true } : State) = s := by rw [← hset]
  have hexec := exec_setFlt hi h
  rw [hsame, h] at hexec
  exact congrArg State.flt (Host.Outcome.next.inj hexec)

/-- Settles O51: `final` tests the bit, the block at rest has no step that fires, and no operation but two writes the bit or reads it. -/
theorem faultBitSticky : Obligations.FaultBitSticky := by
  intro s
  refine ⟨fun hset => ⟨hset, State.final_of_faulted hset⟩, State.final_of_notFaulted, fun hfinal => ?_, fun t i h => ?_⟩
  · obtain ⟨hrest, hclear⟩ := s.final_iff.1 hfinal
    obtain ⟨hagenda, -⟩ := s.atRest_iff.1 hrest
    exact ⟨hclear, fun i hi => exec_own_of_atRest hrest hi, fun hcfg => step_of_nothing hcfg hagenda⟩
  · refine ⟨fun hset hi => ?_, fun hi => ?_, fun hclear => flt_iff_of_notFaulted hclear h, fun hi => exec_setFlt hi h⟩
    · have hkept := flt_kept hset hi h
      exact ⟨hkept, hkept, State.final_of_faulted hkept⟩
    · subst hi
      cases h
      exact ⟨rfl, rfl⟩

/-- Settles O14: the three tests of `step`. -/
theorem stepRunsDecodedOperation : Obligations.StepRunsDecodedOperation := fun _ =>
  ⟨fun _ _ _ hcfg hagenda hi => step_of_message hcfg hagenda hi, step_of_nothing, step_of_invalid⟩

end Sys2Proof.Safety

namespace Sys2Proof.Machine

open Safety

/-! ### A run of RX.BYTE steps (R138) -/

/-- As many RX.BYTE steps as there are bytes on the stream consume them all and leave the stream empty. -/
theorem runAll_rxBytes (bs : Bytes) (s : State) (h : s.inbound = bs) :
    runAll (List.replicate bs.length .rxByte) s = some (State.consumeAll bs s) ∧ (State.consumeAll bs s).inbound = [] := by
  induction bs generalizing s with
  | nil => exact ⟨rfl, h⟩
  | cons b rest ih =>
    have hnext : exec .rxByte s = .next ({ s with inbound := rest }.consume b) := exec_rxByte_of_consume h rfl
    rw [List.length_cons, List.replicate_succ, runAll_cons_of_next hnext]
    exact ih _ (State.consume_inbound b { s with inbound := rest })

/-- An arrival and the RX.BYTE steps for the whole stream are one `receive` (R112). -/
theorem runAll_arrival (bs : Bytes) (s : State) :
    runAll (.tData bs :: List.replicate (s.inbound.length + bs.length) .rxByte) s = some (s.receive bs)
      ∧ (s.receive bs).inbound = [] := by
  have harrive : exec (.tData bs) s = .next (s.indicate bs) := rfl
  rw [runAll_cons_of_next harrive, ← List.length_append]
  exact runAll_rxBytes (s.inbound ++ bs) (s.indicate bs) rfl

/-! ### The kind of a packet and its operation (R104, R140) -/

theorem exec_kindInstr (c : Cfg) (d : Packet) (s : State) : exec (kindInstr c d) s = .next (s.dispatch (kind c d) d) := by
  unfold kindInstr
  cases kind c d <;> rfl

/-! ### Cells of the dispatch table that drop (R140) -/

section
variable {s : State}

theorem State.dispatchSync_elsewhere (huninit : s.state ≠ .uninitialized) (hinit : s.state ≠ .initialized)
    (hactive : s.state ≠ .active) : s.dispatchSync = s := by
  unfold State.dispatchSync
  split
  iterate 3 contradiction
  all_goals rfl

theorem State.dispatchConfig_elsewhere (hinit : s.state ≠ .initialized) (hactive : s.state ≠ .active) : s.dispatchConfig = s := by
  unfold State.dispatchConfig
  split
  iterate 2 contradiction
  all_goals rfl

theorem State.dispatchAck_elsewhere (hactive : s.state ≠ .active) (d : Packet) : s.dispatchAck d = s := by
  unfold State.dispatchAck
  split
  · contradiction
  all_goals rfl

theorem State.dispatchData_elsewhere (hactive : s.state ≠ .active) (d : Packet) : s.dispatchData d = s := by
  unfold State.dispatchData
  split
  · contradiction
  all_goals rfl

theorem State.emitIfOpen_of_closed (f : Bytes) (hclosed : s.linkOpen = false) : s.emitIfOpen f = s :=
  if_neg (Bool.eq_false_iff.1 hclosed)

theorem execDataFrame_of_closed (hclosed : s.linkOpen = false) (p : Bytes) (sq a : BitVec 3) :
    exec (.dataFrame p sq a) s = .next s := by
  have hkept : (if p.length ≤ Config.maxPayload then s.emitIfOpen (dataFrameOf s.cfg p sq a) else s) = s := by
    rw [State.emitIfOpen_of_closed _ hclosed, ite_self]
  exact congrArg Host.Outcome.next hkept

/-! ### TICK and a stalled SEND -/

theorem State.canTick_iff (s : State) : s.canTick = true ↔ s.tSm.expired = false ∧ s.tTx.expired = false ∧ s.tOpen.expired = false := by
  simp [State.canTick, and_assoc]

theorem Timer.expired_eq_false_iff (v : Timer) : v.expired = false ↔ ¬ (v.armed = true ∧ v.rem = 0) := by
  rw [← v.expired_iff, Bool.not_eq_true]

/-- "No command" on HC lets the port present its oldest stalled SEND (R108). -/
theorem step_of_noCommand {rest : List Message} (hcfg : cfgValid s.cfg = true) (hagenda : s.agenda = ⟨.hc, [0]⟩ :: rest) :
    step s = .next (State.presentStalled { s with agenda := rest }) := by
  simp [step, State.configured, hcfg, State.fetch, hagenda, decode, decodeHc, State.noOperation]

end

/-! ### The default checksum (R11, R158) -/

theorem hdrChecksum_toNat {c : Cfg} (h : c.hdrChecksum = .sumToZero) (b0 b1 b2 : Byte) :
    (hdrChecksum c b0 b1 b2).toNat = (256 - (b0.toNat + b1.toNat + b2.toNat) % 256) % 256 := by
  simp only [hdrChecksum, h, BitVec.toNat_neg, BitVec.toNat_add]
  omega

/-- The checksum is the one byte that makes the sum of the four vanish. -/
theorem eq_hdrChecksum_iff {c : Cfg} (h : c.hdrChecksum = .sumToZero) (b0 b1 b2 b3 : Byte) :
    b3 = hdrChecksum c b0 b1 b2 ↔ (b0.toNat + b1.toNat + b2.toNat + b3.toNat) % 256 = 0 := by
  rw [← BitVec.toNat_inj, hdrChecksum_toNat h]
  have hlt : b3.toNat < 256 := b3.isLt
  omega

/-! ### The bits of EXIT (R31) -/

theorem toNat_append_ofBool {n : Nat} (x : BitVec n) (b : Bool) : (x ++ BitVec.ofBool b).toNat = 2 * x.toNat + count b := by
  have hb : (BitVec.ofBool b).toNat < 2 ^ 1 := (BitVec.ofBool b).isLt
  rw [BitVec.toNat_append, ← Nat.shiftLeft_add_eq_or_of_lt hb, Nat.shiftLeft_eq, BitVec.toNat_ofBool, toNat_eq_count]
  omega

theorem ExitFlags.toBits_toNat (e : ExitFlags) :
    e.toBits.toNat = count e.opened + 2 * count e.resetSent + 4 * count e.resetWaitDone + 8 * count e.peerResponded
      + 16 * count e.retryExhausted + 32 * count e.syncReceived + 64 * count e.syncError + 128 * count e.ioError
      + 256 * count e.close := by
  simp only [ExitFlags.toBits, toNat_append_ofBool, BitVec.toNat_ofBool, toNat_eq_count]
  omega

end Sys2Proof.Machine

namespace Sys2Proof.Safety

open Machine

/-- Settles O17: a token is `receive` of its bytes, which is the arrival and the RX.BYTE steps. -/
theorem tokensAreTheirBytes : Obligations.TokensAreTheirBytes := by
  intro s b x arrives
  have harrives : ∀ i bs, exec i s = .next (s.receive bs) → arrives i bs := by
    intro i bs hexec
    obtain ⟨hrun, hempty⟩ := runAll_arrival bs s
    exact ⟨_, hexec, hrun, hempty⟩
  exact ⟨harrives _ _ rfl, harrives _ _ rfl, harrives _ _ rfl, harrives _ _ rfl, harrives _ _ rfl⟩

/-- Settles O9: the checksum is the byte that makes the sum vanish, so a header is accepted exactly when its sum is 0. -/
theorem defaultChecksumDetectsSumChanges : Obligations.DefaultChecksumDetectsSumChanges := by
  intro c b0 b1 b2 x0 x1 x2 x3 h sum
  have hzero : sum b0 b1 b2 (hdrChecksum c b0 b1 b2) = 0 := (eq_hdrChecksum_iff h b0 b1 b2 _).1 rfl
  exact ⟨hdrChecksum_toNat h b0 b1 b2, hzero, by rw [hzero]; exact eq_hdrChecksum_iff h x0 x1 x2 x3⟩

/-- Settles O20: each branch of RX.FRAME, and the rows of the kind table for the packet it dispatches. -/
theorem rxFrameLines : Obligations.RxFrameLines := by
  intro s chunk ovf hopen hterminal counted
  have hexec : exec (.rxFrame chunk ovf) s = .next (s.rxFrame chunk ovf) :=
    exec_rxFrame_of_receiving chunk ovf (s.receiving_iff.2 ⟨hopen, hterminal⟩)
  rw [hexec]
  refine ⟨?_, ?_, ?_, ?_⟩
  · rintro rfl
    rfl
  · rintro rfl e hf
    simp only [State.rxFrame, hf]
    rfl
  · rintro rfl r e hf hd
    simp only [State.rxFrame, hf, hd]
    rfl
  · rintro rfl r d hf hd
    rw [State.rxFrame_packet hf hd, ← exec_kindInstr]
    refine ⟨rfl, ?_⟩
    intro hc control i hrow
    suffices hkind : kindInstr s.cfg d = i by rw [hkind]
    rcases hrow with ⟨ht, rfl⟩ | ⟨ht, hr, rfl⟩ | ⟨ht, hr, rfl⟩ | ⟨ht, rfl⟩ | ⟨⟨ht, hp⟩, rfl⟩ | ⟨⟨ht, hp⟩, rfl⟩ | ⟨⟨x, ht, hp⟩, rfl⟩
      | ⟨⟨x, ht, hp⟩, rfl⟩ | ⟨⟨h0, hv, hr, hl⟩ | ⟨ht, h1, h2, h3, h4⟩, rfl⟩ <;> unfold kindInstr
    · rw [kind_of_ack ht]
    · rw [kind_of_vendor hc ht, hr]; rfl
    · rw [kind_of_vendor hc ht, hr]; rfl
    · rw [kind_of_reset hc ht]
    · rw [kind_of_sync hc ht hp]
    · rw [kind_of_syncRsp hc ht hp]
    · rw [kind_of_config hc ht hp]
    · rw [kind_of_configRsp hc ht hp]
    · rw [kind_of_reserved h0 hv hr hl]
    · rw [kind_of_unknown_control hc ht h1 h2 h3 h4]

/-- Settles O13: each word is short, and decoding it is a computation. -/
theorem specWordsDecode : Obligations.SpecWordsDecode := by
  unfold Obligations.SpecWordsDecode
  decide

/-- Settles O15: each function answers on its port. -/
theorem codecPortsAnswer : Obligations.CodecPortsAnswer := fun _ _ _ _ n => ⟨rfl, rfl, rfl, seqIncr n, seqIncr_toNat n, rfl⟩

/-- Settles O23: the cells that say drop, state by state. -/
theorem dispatchDrops : Obligations.DispatchDrops := by
  intro s d
  refine ⟨rfl, rfl, rfl, fun h1 h2 h3 => ?_, fun h1 => ?_, fun h1 h2 => ?_, fun h1 => ?_, fun h1 => ⟨?_, ?_⟩⟩
  · exact congrArg Host.Outcome.next (State.dispatchSync_elsewhere h1 h2 h3)
  · exact congrArg Host.Outcome.next (State.dispatchSyncRsp_drops h1)
  · exact congrArg Host.Outcome.next (State.dispatchConfig_elsewhere h1 h2)
  · exact congrArg Host.Outcome.next (State.dispatchConfigRsp_drops h1)
  · exact congrArg Host.Outcome.next (State.dispatchAck_elsewhere h1 d)
  · exact congrArg Host.Outcome.next (State.dispatchData_elsewhere h1 d)

/-- Settles O32: a SEND waits while one is in flight; "no command" presents the oldest one, which is then tested as a new one is. -/
theorem sendStalls : Obligations.SendStalls := by
  intro s p
  refine ⟨exec_hostSend_of_busy, fun rest q w hcfg hagenda hwait => ⟨fun hbusy => ?_, fun hidle => ?_⟩⟩ <;>
    rw [step_of_noCommand hcfg hagenda]
  · exact congrArg Host.Outcome.next (if_pos hbusy)
  · have hpresent : State.presentStalled { s with agenda := rest } = State.acceptSend q { s with agenda := rest, hcWait := w } := by
      simp [State.presentStalled, hidle, hwait]
    rw [hpresent]
    exact (exec_hostSend_of_idle (s := { s with agenda := rest, hcWait := w }) hidle).symm

/-- Settles O42: no timer is expired, so TICK fires. -/
theorem tickCountsDown : Obligations.TickCountsDown := by
  intro s due after hsm htx hopn
  have hcan : s.canTick = true := s.canTick_iff.2
    ⟨s.tSm.expired_eq_false_iff.2 hsm, s.tTx.expired_eq_false_iff.2 htx, s.tOpen.expired_eq_false_iff.2 hopn⟩
  exact State.guarded_of_true hcan s _

/-- Settles O44: the column of R51. -/
theorem resetValues : Obligations.ResetValues := by
  unfold Obligations.ResetValues
  decide

/-- Settles O45: hardware reset is one update. -/
theorem hardwareReset : Obligations.HardwareReset := fun _ => ⟨_, _, _, _, _, rfl⟩

/-- Settles O46: the tables of codes, and the bits of EXIT one after another. -/
theorem portCodes : Obligations.PortCodes := by
  refine ⟨by decide, by decide, by decide, ExitFlags.toBits_toNat, fun p f st x l => ?_, rfl, rfl, rfl, rfl, rfl, fun c p => ?_⟩
  · exact ⟨rfl, rfl, rfl, rfl, rfl, rfl⟩
  · exact ⟨rfl, rfl, rfl, rfl⟩

/-- Settles O37: the guard of each step, taken apart, contradicts what is said of the state. -/
theorem disabledStepsDoNothing : Obligations.DisabledStepsDoNothing := by
  intro s d chunk ovf io due i h
  have hdue : ∀ v : Timer, ¬ due v → v.expired = false := fun v hv => v.expired_eq_false_iff.2 hv
  have hstutters : ∀ {g : Bool} (t : State), ¬ g = true → s.guarded g t = .next s :=
    fun t hg => State.guarded_of_false (Bool.eq_false_iff.2 hg) s t
  rcases h with ⟨rfl, h⟩ | ⟨rfl, h⟩ | ⟨rfl, h⟩ | ⟨rfl, h⟩ | ⟨rfl, h⟩ | ⟨rfl, h⟩ | ⟨rfl, h⟩ | ⟨rfl, h⟩ | ⟨rfl, h⟩ | ⟨hi, h⟩ | ⟨rfl, h⟩
    | ⟨rfl, h⟩ | ⟨rfl, h⟩ | ⟨rfl, h⟩ | ⟨rfl, h⟩ | ⟨rfl, h⟩ | ⟨rfl, h⟩ | ⟨rfl, h⟩ | ⟨rfl, h⟩ | ⟨rfl, h⟩ | ⟨rfl, h⟩ | ⟨rfl, h⟩
    | ⟨rfl, h⟩ | ⟨rfl, h⟩
  · simp only [exec, execRxByte, h]
  · exact hstutters _ fun hg => by simp [s.receiving_iff.1 hg] at h
  · exact hstutters _ (by simpa using h)
  · exact hstutters _ (by simpa using h)
  · exact hstutters _ (by simpa using h)
  · exact hstutters _ (by simpa using h)
  · exact hstutters _ (by simpa using h)
  · exact hstutters _ (by simpa [or_iff_not_imp_left] using h)
  · exact hstutters _ (by simpa [or_iff_not_imp_left] using h)
  · simp only [List.mem_cons, List.not_mem_nil, or_false] at hi
    rcases hi with rfl | rfl | rfl | rfl | rfl | rfl | rfl
    case inr.inr.inr.inr.inr.inr => exact execDataFrame_of_closed h ..
    all_goals exact congrArg Host.Outcome.next (State.emitIfOpen_of_closed _ h)
  · exact hstutters _ fun hg => by simp [io, s.canSeqAbort_iff.1 hg] at h
  · exact hstutters _ fun hg => by simp [io, s.canSeqStart_iff.1 hg] at h
  · exact hstutters _ fun hg => by simp [io, s.canSeqReset_iff.1 hg] at h
  · exact hstutters _ fun hg => by simp [io, s.canSeqUninitOk_iff.1 hg] at h
  · exact hstutters _ fun hg => by simp [io, s.canSeqUninitNr_iff.1 hg] at h
  · exact hstutters _ fun hg => by simp [io, s.canSeqInitOk_iff.1 hg] at h
  · exact hstutters _ fun hg => by simp [io, s.canSeqInitNr_iff.1 hg] at h
  · exact hstutters _ fun hg => by have := s.canSeqActive_iff.1 hg; simp_all [io]
  · exact hstutters _ fun hg => by simp [s.canCloseDone_iff.1 hg] at h
  · exact hstutters _ fun hg => by simp [io, State.canTxAbort_iff.1 hg] at h
  · exact State.guarded_of_false (hdue _ h) s _
  · exact State.guarded_of_false (hdue _ h) s _
  · exact State.guarded_of_false (hdue _ h) s _
  · refine hstutters _ fun hg => ?_
    obtain ⟨h1, h2, h3⟩ := s.canTick_iff.1 hg
    rcases h with h | h | h
    · exact absurd h (s.tSm.expired_eq_false_iff.1 h1)
    · exact absurd h (s.tTx.expired_eq_false_iff.1 h2)
    · exact absurd h (s.tOpen.expired_eq_false_iff.1 h3)

end Sys2Proof.Safety

namespace Sys2Proof.Machine

open Safety

/-! ### Full waits of a retransmission interval (R44, R186, R192, R215) -/

/-- One interval of ticks, and the expiry that ends it. -/
def waitFor (c : Cfg) (i : Instr) : List Instr := List.replicate (ticks c c.retxInterval) .tick ++ [i]

theorem Timer.lasts_after {m n : Nat} {v : Timer} (h : v.lasts (m + n)) : (v.after m).lasts n := by
  intro ha
  rw [Timer.after_armed] at ha
  have hm : v.lasts m := fun ha => le_trans (Nat.le_add_right m n) (h ha)
  have hall := h ha
  rw [Timer.after_rem hm ha]
  omega

theorem Timer.lasts_of_le {m n : Nat} {v : Timer} (h : v.lasts n) (hm : m ≤ n) : v.lasts m := fun ha => le_trans hm (h ha)

/-- A timer armed with a full interval lasts it and has run out at its end. -/
theorem Timer.full_lasts {c : Cfg} {d : Nat} (h : durationOk c d = true) :
    (⟨true, BitVec.ofNat 16 (ticks c d)⟩ : Timer).lasts (ticks c d) :=
  fun _ => (ticks_toNat h).ge

theorem Timer.full_after (n : Nat) : (⟨true, BitVec.ofNat 16 n⟩ : Timer).after n = ⟨true, 0⟩ := by
  simp [Timer.after]

/-- A state after `n` ticks that expire no timer. -/
def State.after (n : Nat) (s : State) : State := { s with tSm := s.tSm.after n, tTx := s.tTx.after n, tOpen := s.tOpen.after n }

theorem runAll_waitFor {s t : State} {i : Instr} (hsm : s.tSm.lasts (ticks s.cfg s.cfg.retxInterval))
    (htx : s.tTx.lasts (ticks s.cfg s.cfg.retxInterval)) (hopn : s.tOpen.lasts (ticks s.cfg s.cfg.retxInterval))
    (h : exec i (s.after (ticks s.cfg s.cfg.retxInterval)) = .next t) : runAll (waitFor s.cfg i) s = some t := by
  rw [waitFor, runAll_append, runAll_ticks _ s hsm htx hopn]
  exact runAll_cons_of_next h []

/-- The transport's next answer is the first of a list that is not spent. -/
theorem answer_eq_ok {s : State} {a : Answer} {j : Nat} (h : mayAnswer s a) (hs : s.answers = List.replicate (j + 1) .ok) : a = .ok :=
  h .ok (by rw [hs]; rfl)

theorem append_replicate_succ {α : Type} (l m : List α) (x : α) (j : Nat) (h : m = l ++ [x]) :
    m ++ List.replicate j x = l ++ List.replicate (j + 1) x := by
  rw [h, List.append_assoc]
  rfl

/-- One of the waits, and those that are left after it. -/
theorem interval_add (j T : Nat) : (j + 1 + 1) * T = T + (j + 1) * T := by ring

theorem interval_le (j T : Nat) : T ≤ (j + 1) * T := Nat.le_mul_of_pos_left T (Nat.succ_pos j)

/-! ### The attempts of the handshake (R186, R192) -/

/-- A handshake state as its entry or a retransmission leaves it: `f` is its frame, `j` attempts are left, and the other two timers
outlast the waits. -/
structure HandshakeWait (f : Bytes) (j : Nat) (s : State) : Prop where
  interval : durationOk s.cfg s.cfg.retxInterval = true
  stage : (s.state = .uninitialized ∧ f = syncFrameOf s.cfg) ∨ (s.state = .initialized ∧ f = configFrameOf s.cfg)
  exit : s.exit = ExitFlags.zero
  left : s.retryCnt.toNat = j
  timer : s.tSm = ⟨true, BitVec.ofNat 16 (ticks s.cfg s.cfg.retxInterval)⟩
  tx : s.tTx.lasts ((j + 1) * ticks s.cfg s.cfg.retxInterval)
  opn : s.tOpen.lasts ((j + 1) * ticks s.cfg s.cfg.retxInterval)
  answers : s.answers = List.replicate j .ok

/-- The handshake has given up after `j` more transmissions of `f`. -/
structure HandshakeSpent (f : Bytes) (j : Nat) (s t : State) : Prop where
  out : t.out = s.out ++ List.replicate j (.tq (.tSend f) .ok)
  exit : t.exit = { ExitFlags.zero with retryExhausted := true }
  state : t.state = s.state
  left : t.retryCnt = 0
  timer : t.tSm.armed = false
  pending : t.openPending = s.openPending
  busy : t.txBusy = s.txBusy

section
variable {f : Bytes} {j : Nat} {s : State}

/-- The wait of a handshake state ends with the expiry of `t_sm`. -/
theorem HandshakeWait.expiry {t : State} (h : HandshakeWait f j s)
    (hexec : exec .tSmExpire (s.after (ticks s.cfg s.cfg.retxInterval)) = .next t) : runAll (waitFor s.cfg .tSmExpire) s = some t :=
  runAll_waitFor (by rw [h.timer]; exact Timer.full_lasts h.interval) (Timer.lasts_of_le h.tx (interval_le _ _))
    (Timer.lasts_of_le h.opn (interval_le _ _)) hexec

theorem HandshakeWait.due (h : HandshakeWait f j s) : (s.after (ticks s.cfg s.cfg.retxInterval)).tSm = ⟨true, 0⟩ := by
  have htimer : (s.after (ticks s.cfg s.cfg.retxInterval)).tSm = s.tSm.after (ticks s.cfg s.cfg.retxInterval) := rfl
  rw [htimer, h.timer, Timer.full_after]

/-- One wait with some budget left: one more transmission. -/
theorem HandshakeWait.again (h : HandshakeWait f (j + 1) s) : ∃ t, runAll (waitFor s.cfg .tSmExpire) s = some t ∧ HandshakeWait f j t
    ∧ t.cfg = s.cfg ∧ t.out = s.out ++ [.tq (.tSend f) .ok] ∧ t.state = s.state ∧ t.openPending = s.openPending ∧ t.txBusy = s.txBusy := by
  have hexit : ∀ {b : Bool}, s.exit = ExitFlags.zero → b = false → { s.exit with ioError := b } = ExitFlags.zero := by
    intro b hz hb
    rw [hz, hb]
    rfl
  have hleft : s.retryCnt ≠ 0 := by
    intro h0
    have hcnt := h.left
    simp [h0] at hcnt
  obtain ⟨-, -, hcases⟩ := sequencerTimerExpires (s.after (ticks s.cfg s.cfg.retxInterval)) (by rw [h.due]) (by rw [h.due])
  have hnone := h.exit
  obtain ⟨a, n, hanswer, hexec⟩ := ((hcases f h.stage).2 (congrArg ExitFlags.peerResponded hnone)
    (congrArg ExitFlags.ioError hnone) (congrArg ExitFlags.close hnone)).2 hleft
  obtain rfl := answer_eq_ok hanswer h.answers
  refine ⟨_, h.expiry hexec, ?_, rfl, rfl, rfl, rfl, rfl⟩
  have htx : s.tTx.lasts (ticks s.cfg s.cfg.retxInterval + (j + 1) * ticks s.cfg s.cfg.retxInterval) := interval_add j _ ▸ h.tx
  have hopn : s.tOpen.lasts (ticks s.cfg s.cfg.retxInterval + (j + 1) * ticks s.cfg s.cfg.retxInterval) := interval_add j _ ▸ h.opn
  refine ⟨h.interval, h.stage, hexit hnone rfl, ?_, rfl, Timer.lasts_after htx, Timer.lasts_after hopn, ?_⟩
  · have hcnt := h.left
    show (s.retryCnt - 1).toNat = j
    bv_omega
  · show s.answers.tail = List.replicate j .ok
    rw [h.answers]
    rfl

/-- The last wait: the budget is spent. -/
theorem HandshakeWait.last (h : HandshakeWait f 0 s) : ∃ t, runAll (waitFor s.cfg .tSmExpire) s = some t ∧ HandshakeSpent f 0 s t := by
  have hspent : s.retryCnt = 0 := BitVec.eq_of_toNat_eq h.left
  obtain ⟨-, -, hcases⟩ := sequencerTimerExpires (s.after (ticks s.cfg s.cfg.retxInterval)) (by rw [h.due]) (by rw [h.due])
  have hnone := h.exit
  obtain ⟨r, n, hexec⟩ := ((hcases f h.stage).2 (congrArg ExitFlags.peerResponded hnone) (congrArg ExitFlags.ioError hnone)
    (congrArg ExitFlags.close hnone)).1 hspent
  refine ⟨_, h.expiry hexec, (List.append_nil _).symm, ?_, rfl, hspent, rfl, rfl, rfl⟩
  show { s.exit with retryExhausted := true } = _
  rw [hnone]

end

theorem HandshakeWait.attempts {f : Bytes} (j : Nat) : ∀ {s : State}, HandshakeWait f j s →
    ∃ t, runAll (List.replicate (j + 1) (waitFor s.cfg .tSmExpire)).flatten s = some t ∧ HandshakeSpent f j s t := by
  induction j with
  | zero =>
    intro s h
    simpa using h.last
  | succ j ih =>
    intro s h
    obtain ⟨u, hrun, hu, hcfg, hout, hstate, hpending, hbusy⟩ := h.again
    obtain ⟨t, hrest, ht⟩ := ih hu
    rw [hcfg] at hrest
    refine ⟨t, ?_, ?_, ht.exit, ht.state.trans hstate, ht.left, ht.timer, ht.pending.trans hpending, ht.busy.trans hbusy⟩
    · rw [List.replicate_succ, List.flatten_cons, runAll_append, hrun]
      exact hrest
    · rw [ht.out]
      exact append_replicate_succ _ _ _ j hout

/-! ### The attempts of a SEND (R215, R217) -/

/-- A SEND in flight as its acceptance or a retransmission leaves it: `j` attempts are left, and the other two timers outlast the
waits. -/
structure SendWait (j : Nat) (s : State) : Prop where
  interval : durationOk s.cfg s.cfg.retxInterval = true
  busy : s.txBusy = true
  noError : s.exit.ioError = false
  noClose : s.exit.close = false
  left : s.txRetryCnt.toNat = j
  timer : s.tTx = ⟨true, BitVec.ofNat 16 (ticks s.cfg s.cfg.retxInterval)⟩
  sm : s.tSm.lasts ((j + 1) * ticks s.cfg s.cfg.retxInterval)
  opn : s.tOpen.lasts ((j + 1) * ticks s.cfg s.cfg.retxInterval)
  answers : s.answers = List.replicate j .ok

/-- The SEND has failed after `j` more transmissions of its frame. -/
structure SendSpent (j : Nat) (s t : State) : Prop where
  out : t.out = s.out ++ List.replicate j (.tq (.tSend s.txFrame) .ok) ++ [.hr .send .maxRetriesReached]
  busy : t.txBusy = false
  seqNum : t.seqNum = s.seqNum
  ackNum : t.ackNum = s.ackNum
  state : t.state = s.state
  exit : t.exit = s.exit
  timer : t.tTx.armed = false

section
variable {j : Nat} {s : State}

theorem SendWait.expiry {t : State} (h : SendWait j s)
    (hexec : exec .tTxExpire (s.after (ticks s.cfg s.cfg.retxInterval)) = .next t) : runAll (waitFor s.cfg .tTxExpire) s = some t :=
  runAll_waitFor (Timer.lasts_of_le h.sm (interval_le _ _)) (by rw [h.timer]; exact Timer.full_lasts h.interval)
    (Timer.lasts_of_le h.opn (interval_le _ _)) hexec

theorem SendWait.due (h : SendWait j s) : (s.after (ticks s.cfg s.cfg.retxInterval)).tTx = ⟨true, 0⟩ := by
  have htimer : (s.after (ticks s.cfg s.cfg.retxInterval)).tTx = s.tTx.after (ticks s.cfg s.cfg.retxInterval) := rfl
  rw [htimer, h.timer, Timer.full_after]

/-- One wait with some budget left: the stored frame once more, and nothing else that a peer or the host sees. -/
theorem SendWait.again (h : SendWait (j + 1) s) : ∃ t, runAll (waitFor s.cfg .tTxExpire) s = some t ∧ SendWait j t
    ∧ t.cfg = s.cfg ∧ t.out = s.out ++ [.tq (.tSend s.txFrame) .ok] ∧ t.txFrame = s.txFrame ∧ t.seqNum = s.seqNum
    ∧ t.ackNum = s.ackNum ∧ t.state = s.state ∧ t.exit = s.exit := by
  have hleft : s.txRetryCnt ≠ 0 := by
    intro h0
    have hcnt := h.left
    simp [h0] at hcnt
  obtain ⟨-, hcases⟩ := retransmissionTimerExpires (s.after (ticks s.cfg s.cfg.retxInterval)) (by rw [h.due]) (by rw [h.due])
  obtain ⟨a, n, hanswer, hexec⟩ := (hcases h.busy h.noError h.noClose).2 hleft
  obtain rfl := answer_eq_ok hanswer h.answers
  have hexit : { s.exit with ioError := Answer.ok == Answer.err } = s.exit := by
    have hio : (Answer.ok == Answer.err) = s.exit.ioError := h.noError.symm
    rw [hio]
  refine ⟨_, h.expiry hexec, ?_, rfl, rfl, rfl, rfl, rfl, rfl, hexit⟩
  have hsm : s.tSm.lasts (ticks s.cfg s.cfg.retxInterval + (j + 1) * ticks s.cfg s.cfg.retxInterval) := interval_add j _ ▸ h.sm
  have hopn : s.tOpen.lasts (ticks s.cfg s.cfg.retxInterval + (j + 1) * ticks s.cfg s.cfg.retxInterval) := interval_add j _ ▸ h.opn
  refine ⟨h.interval, h.busy, rfl, h.noClose, ?_, rfl, Timer.lasts_after hsm, Timer.lasts_after hopn, ?_⟩
  · have hcnt := h.left
    show (s.txRetryCnt - 1).toNat = j
    bv_omega
  · show s.answers.tail = List.replicate j .ok
    rw [h.answers]
    rfl

/-- The last wait: the SEND ends with its result. -/
theorem SendWait.last (h : SendWait 0 s) : ∃ t, runAll (waitFor s.cfg .tTxExpire) s = some t ∧ SendSpent 0 s t := by
  have hspent : s.txRetryCnt = 0 := BitVec.eq_of_toNat_eq h.left
  obtain ⟨-, hcases⟩ := retransmissionTimerExpires (s.after (ticks s.cfg s.cfg.retxInterval)) (by rw [h.due]) (by rw [h.due])
  obtain ⟨f, r, n, hexec⟩ := (hcases h.busy h.noError h.noClose).1 hspent
  exact ⟨_, h.expiry hexec, by rw [List.replicate_zero, List.append_nil]; rfl, rfl, rfl, rfl, rfl, rfl, rfl⟩

end

theorem SendWait.attempts (j : Nat) : ∀ {s : State}, SendWait j s →
    ∃ t, runAll (List.replicate (j + 1) (waitFor s.cfg .tTxExpire)).flatten s = some t ∧ SendSpent j s t := by
  induction j with
  | zero =>
    intro s h
    simpa using h.last
  | succ j ih =>
    intro s h
    obtain ⟨u, hrun, hu, hcfg, hout, hframe, hseq, hack, hstate, hexit⟩ := h.again
    obtain ⟨t, hrest, ht⟩ := ih hu
    rw [hcfg] at hrest
    refine ⟨t, ?_, ?_, ht.busy, ht.seqNum.trans hseq, ht.ackNum.trans hack, ht.state.trans hstate, ht.exit.trans hexit, ht.timer⟩
    · rw [List.replicate_succ, List.flatten_cons, runAll_append, hrun]
      exact hrest
    · rw [ht.out, hframe, append_replicate_succ _ _ _ j hout]

/-- A valid budget is one more than the number of retransmissions it allows (R11, R293). -/
theorem retryBudget_eq {c : Cfg} (hc : cfgValid c = true) : c.retryBudget - 1 + 1 = c.retryBudget := by
  obtain ⟨-, -, -, hbudget, -⟩ := (cfgValid_iff c).1 hc
  simp [budgetOk] at hbudget
  omega

theorem durationOk_retx {c : Cfg} (hc : cfgValid c = true) : durationOk c c.retxInterval = true := by
  obtain ⟨-, -, -, -, -, hretx, -⟩ := (cfgValid_iff c).1 hc
  exact hretx

end Sys2Proof.Machine

namespace Sys2Proof.Safety

open Machine

/-- Settles O58: induction on the attempts that are left. -/
theorem handshakeAttempts : Obligations.HandshakeAttempts := by
  intro s f hc waits hstage hexit hleft htimer htx hopn hanswers
  have hbudget := retryBudget_eq hc
  have hwait : HandshakeWait f (s.cfg.retryBudget - 1) s :=
    ⟨durationOk_retx hc, hstage, hexit, hleft, htimer, by rw [hbudget]; exact htx, by rw [hbudget]; exact hopn, hanswers⟩
  obtain ⟨t, hrun, ht⟩ := hwait.attempts
  rw [hbudget] at hrun
  exact ⟨t, hrun, ht.out, ht.exit, ht.state, ht.left, ht.timer, ht.pending, ht.busy⟩

/-- Settles O59: induction on the attempts that are left; and no other effect touches a SEND that stays in flight. -/
theorem sendAttempts : Obligations.SendAttempts := by
  refine ⟨fun s hc hbusy hio hclose => ?_, fun s t i hbusy htick hexpire h => (exec_effect h).sendKept hbusy htick hexpire⟩
  intro waits hleft htimer hsm hopn hanswers
  have hbudget := retryBudget_eq hc
  have hwait : SendWait (s.cfg.retryBudget - 1) s :=
    ⟨durationOk_retx hc, hbusy, hio, hclose, hleft, htimer, by rw [hbudget]; exact hsm, by rw [hbudget]; exact hopn, hanswers⟩
  obtain ⟨t, hrun, ht⟩ := hwait.attempts
  rw [hbudget] at hrun
  exact ⟨t, hrun, ht.out, ht.busy, ht.seqNum, ht.ackNum, ht.state, ht.exit, ht.timer⟩

end Sys2Proof.Safety

namespace Sys2Proof.Machine

open Safety

/-! ### A template on the way to a block (R105, R141) -/

section
variable {c : Cfg} {p : Bytes}

/-- The body of a template fits a buffer that holds the longest body of a packet (R12, R293). -/
theorem stuff_template_le (hfit : maxBody c ≤ c.rxBufMax) (hp : p.length ≤ 4095) (sq a : BitVec 3) (r i : Bool) (t : BitVec 4) :
    (stuff c (buildPacket c p sq a r i t)).length ≤ c.rxBufMax := by
  have hcount : ∀ q : Bytes, (stuff c q).length ≤ 2 * q.length := by
    intro q
    rw [stuff_length]
    have hle := List.countP_le_length (p := fun b => b == c.delim || b == c.esc) (l := q)
    omega
  have hbody := hcount (buildPacket c p sq a r i t)
  rw [buildPacket_length] at hbody
  have hmax : maxBody c = 2 * (4 + 4095 + c.integrityLen) := rfl
  split at hbody <;> omega

theorem buildPacket_ne_nil (c : Cfg) (p : Bytes) (sq a : BitVec 3) (r i : Bool) (t : BitVec 4) : buildPacket c p sq a r i t ≠ [] := by
  intro h
  have hlen := buildPacket_length c p sq a r i t
  rw [h, List.length_nil] at hlen
  omega

theorem carries_template {k : PacketKind} (hf : framingOk c = true) (hfit : maxBody c ≤ c.rxBufMax) (hp : p.length ≤ 4095)
    {sq a : BitVec 3} {r : Bool} {t : BitVec 4} (hk : kind c (recordOf c p sq a r c.txIntegrity t) = k) :
    Carries c (template c p sq a r t) k :=
  ⟨buildPacket c p sq a r c.txIntegrity t, _, rfl, buildPacket_ne_nil c p sq a r c.txIntegrity t, stuff_template_le hfit hp ..,
    decodeFrame_template hf .., decodePkt_buildPacket c p sq a r c.txIntegrity t hp, hk⟩

theorem wired_of_cfgValid (hc : cfgValid c = true) (hfit : maxBody c ≤ c.rxBufMax) : Wired c := by
  obtain ⟨hf, -, -, hbudget, -, hretx, hsettle, -⟩ := (cfgValid_iff c).1 hc
  have htwo : ∀ q : Pattern, q.bytes.length ≤ 4095 := fun q => (by decide : 2 ≤ 4095)
  have hthree : ∀ q : Pattern, (q.bytes ++ [c.configField]).length ≤ 4095 := fun q => (by decide : 3 ≤ 4095)
  exact ⟨hf, hbudget, hretx, hsettle, carries_template hf hfit (Nat.zero_le _) (kind_of_reset hc rfl),
    carries_template hf hfit (htwo _) (kind_of_sync hc rfl rfl), carries_template hf hfit (htwo _) (kind_of_syncRsp hc rfl rfl),
    carries_template hf hfit (hthree _) (kind_of_config hc rfl rfl),
    carries_template hf hfit (hthree _) (kind_of_configRsp hc rfl rfl)⟩

end

/-! ### Two blocks from the first OPEN to ACTIVE (R202) -/

theorem shut_of_closed {s : State} (h : Inv s) (hclosed : s.linkOpen = false) : Shut s.cfg s := by
  obtain ⟨hterminal, hidle, -, hclosing, hsm, htx, hopn⟩ := h.closed hclosed
  exact ⟨rfl, hclosed, hterminal, hidle, hclosing, hsm, htx, hopn⟩

section
variable {c : Cfg} {a b : State} {skew time : Nat} {Q : Joined → Prop}

/-- Bytes on the stream of the second block, left from before its OPEN, are taken off without effect. -/
theorem Joined.eventually_emptyB (hB : Shut c b) (h : ∀ b', Shut c b' ∧ b'.inbound = [] → Joined.Eventually skew Q ⟨a, b', time⟩) :
    Joined.Eventually skew Q ⟨a, b, time⟩ := by
  by_cases hin : b.inbound = []
  · exact h b ⟨hB, hin⟩
  · have htakes : Takes b [] (fun u => Shut c u ∧ u.inbound = []) [] := hB.takes (by simpa using hin)
    have hstart : Joined.Eventually skew Q ⟨a, b.indicate [], time⟩ := by
      refine Joined.eventually_takeB (by simpa [State.indicate] using hin) htakes fun b' hb' => ?_
      rw [State.indicate_nil]
      exact h b' hb'
    rwa [State.indicate_nil] at hstart

/-- The first of the attempts, and the rest (R11). -/
theorem budget_mul (h : 1 ≤ c.retryBudget) (n : Nat) : c.retryBudget * n = (c.retryBudget - 1) * n + n := by
  conv_lhs => rw [← Nat.sub_add_cancel h, Nat.add_mul, Nat.one_mul]

/-- The second block is in RESET with the settle time before it, the first is on its way: one interval after that time both are in
ACTIVE. -/
theorem Joined.eventually_both (w : Wired c) (hN : 2 ≤ c.retryBudget) (hskew : skew ≤ (c.retryBudget - 1) * ticks c c.retxInterval)
    (hA : Progress c skew a) (hB : Nap c true (ticks c c.resetSettle) b) :
    Joined.Eventually skew (Both c (skew + ticks c c.resetSettle + ticks c c.retxInterval)) ⟨a, b, skew⟩ := by
  have hbudget := budget_mul (c := c) (by omega) (ticks c c.retxInterval)
  refine Joined.eventually_march w _ a b skew hA hB (fun h => absurd h Bool.true_eq_false_eq_False) (by omega) fun a' b' hA' hB' => ?_
  obtain ⟨j, hB'⟩ := hB'
  exact Joined.eventually_active w hN hA' hB' (by omega) (by omega)

/-- The first block leaves START while the second takes nothing in. -/
theorem Joined.eventually_startA {o : Bool} {d : Nat} (w : Wired c) (hA : Phase c .start exOpened 0 none a) (hB : Nap c o (d + 1) b)
    (ho : o = false → 0 + (d + 1) = skew) (h : ∀ a' b', Progress c 0 a' → Nap c o (d + 1) b' → Joined.Eventually skew Q ⟨a', b', 0⟩) :
    Joined.Eventually skew Q ⟨a, b, 0⟩ :=
  Joined.eventually_napA w.framing hB ho hA.inbound (hA.fires_seqStart w.settle) (.inr (.inl w.reset)) fun a' b' ha' hb' =>
    h a' b' (.inl ⟨0, _, ha', Nat.zero_add _⟩) hb'

/-- A RESET packet does not move the first block on its way (R140). -/
theorem Progress.drops_reset (w : Wired c) (h : Progress c time a) : Takes a (resetFrameOf c) (Progress c time) [] := by
  rcases h with ⟨j, m, h, he⟩ | ⟨j, m, h, hm, he⟩
  · obtain ⟨ht, hsent⟩ := h.drops w.framing w.reset (.inl ⟨rfl, rfl⟩)
    exact ⟨.inl ⟨j, m, ht, he⟩, hsent⟩
  · obtain ⟨ht, hsent⟩ := h.drops w.framing w.reset (.inl ⟨rfl, rfl⟩)
    exact ⟨.inr ⟨j, m, ht, hm, he⟩, hsent⟩

/-- The second block is opened and sends its RESET, which the first drops. -/
theorem Joined.eventually_openedB (w : Wired c) (hB : Shut c b ∧ b.inbound = []) (ha : a.inbound = []) {P : State → Prop}
    (hP : Takes a (resetFrameOf c) P [])
    (h : ∀ a' b', P a' → Nap c true (ticks c c.resetSettle) b' → Joined.Eventually skew Q ⟨a', b', skew⟩) :
    Joined.Eventually skew Q ⟨a, b, skew⟩ := by
  refine Joined.eventually_openB hB ha rfl fun b1 hb1 => ?_
  refine Joined.eventually_fireB hb1.inbound ha (fun _ => hb1.linkOpen) (hb1.fires_seqStart w.settle) fun b2 hb2 => ?_
  refine Joined.eventually_takeA hb2.inbound w.reset.ne_nil hP fun a' ha' => ?_
  rw [State.indicate_nil]
  exact h a' b2 ha' ⟨0, hb2⟩

/-- From the OPEN of the first block to ACTIVE (R202). -/
theorem Joined.eventually_opened (w : Wired c) (hN : 2 ≤ c.retryBudget) (hskew : skew ≤ (c.retryBudget - 1) * ticks c c.retxInterval)
    (hA : Shut c a) (hB : Shut c b) :
    Joined.Eventually skew (Both c (skew + ticks c c.resetSettle + ticks c c.retxInterval)) (Joined.start a b) := by
  obtain ⟨hstart, -⟩ := hA.opens
  obtain ⟨-, hsettle, -⟩ := Wired.pos w
  refine Joined.eventually_emptyB hB fun b' hb' => ?_
  rcases Nat.eq_zero_or_pos skew with rfl | hpos
  · refine Joined.eventually_openedB w hb' hstart.inbound (hstart.drops w.framing w.reset (.inl ⟨rfl, rfl⟩)) fun a1 b1 ha1 hb1 => ?_
    obtain ⟨d, hd⟩ : ∃ d, ticks c c.resetSettle = d + 1 := ⟨ticks c c.resetSettle - 1, by omega⟩
    rw [hd] at hb1
    refine Joined.eventually_startA w ha1 hb1 (by simp) fun a2 b2 ha2 hb2 => ?_
    rw [← hd] at hb2
    exact Joined.eventually_both w hN hskew ha2 hb2
  · obtain ⟨d, rfl⟩ : ∃ d, skew = d + 1 := ⟨skew - 1, by omega⟩
    refine Joined.eventually_startA (o := false) (d := d) w hstart hb' (fun _ => Nat.zero_add _) fun a1 b1 ha1 hb1 => ?_
    have hbudget := budget_mul (c := c) (by omega) (ticks c c.retxInterval)
    refine Joined.eventually_march w (d + 1) a1 b1 0 ha1 hb1 (fun _ => Nat.zero_add _) (by omega) fun a2 b2 ha2 hb2 => ?_
    rw [Nat.zero_add] at ha2 ⊢
    refine Joined.eventually_openedB w hb2 ha2.inbound (ha2.drops_reset w) fun a3 b3 ha3 hb3 => ?_
    exact Joined.eventually_both w hN hskew ha3 hb3

end

/-! ### One exchange in ACTIVE (R220, R224, R231) -/

/-- The arrival of a frame and the RX.BYTE steps that take it in. -/
def arrival (f : Bytes) : List Instr := .tData f :: List.replicate f.length .rxByte

/-- A block in ACTIVE that has read everything and waits for the next frame. -/
structure Listening (c : Cfg) (s : State) : Prop where
  cfg : s.cfg = c
  state : s.state = .active
  linkOpen : s.linkOpen = true
  inbound : s.inbound = []
  rxBuf : s.rxBuf = []
  rxOvf : s.rxOvf = false

section
variable {c : Cfg} {s : State} {p : Bytes} {sq a : BitVec 3} {r : Bool} {t : BitVec 4}

/-- A template that arrives is dispatched by its kind, once. -/
theorem Listening.runAll_arrival (h : Listening c s) (hc : cfgValid c = true) (hfit : maxBody c ≤ c.rxBufMax) (hp : p.length ≤ 4095) :
    runAll (arrival (template c p sq a r t)) s
      = some (State.dispatch (kind c (recordOf c p sq a r c.txIntegrity t)) (recordOf c p sq a r c.txIntegrity t)
          { s with rxSync := true }) := by
  obtain ⟨rfl, hstate, hopen, hin, hbuf, hovf⟩ := h
  have hf := framingOk_of_cfgValid hc
  have hrun := (Machine.runAll_arrival (template s.cfg p sq a r t) s).1
  rw [hin, List.length_nil, Nat.zero_add] at hrun
  have hrx : s.receive (template s.cfg p sq a r t)
      = State.consumeAll (template s.cfg p sq a r t) (s.indicate (template s.cfg p sq a r t)) := by
    rw [State.receive, hin, List.nil_append]
  have hframe := State.consumeAll_frame (buildPacket s.cfg p sq a r s.cfg.txIntegrity t) [] (s.indicate (template s.cfg p sq a r t)) hf
    (s.receiving_iff.2 ⟨hopen, by rw [hstate]; rfl⟩) hbuf hovf (buildPacket_ne_nil s.cfg p sq a r s.cfg.txIntegrity t)
    (stuff_template_le hfit hp ..)
  rw [List.append_nil] at hframe
  have hchunk : ({ s with inbound := [], rxSync := true } : State) = { s with rxSync := true } := by rw [← hin]
  refine hrun.trans (congrArg some (hrx.trans (hframe.trans ?_)))
  refine (congrArg (State.rxFrame (template s.cfg p sq a r t) false) hchunk).trans ?_
  exact State.rxFrame_packet (s := { s with rxSync := true }) (decodeFrame_template hf ..) (decodePkt_buildPacket _ _ _ _ _ _ _ hp)

/-- A data frame that arrives is RX.DATA of its record (R140). -/
theorem Listening.runAll_data (h : Listening c s) (hc : cfgValid c = true) (hfit : maxBody c ≤ c.rxBufMax) (hp : p.length ≤ 4095) :
    runAll (arrival (dataFrameOf c p sq a)) s
      = some (State.onData (recordOf c p sq a true c.txIntegrity c.ptVendor) { s with rxSync := true }) := by
  have hkind : kind c (recordOf c p sq a true c.txIntegrity c.ptVendor) = .data := kind_of_vendor hc rfl
  refine (h.runAll_arrival hc hfit hp).trans ?_
  rw [hkind]
  simp [State.dispatch, State.dispatchData, h.state]

/-- Data with the expected number: acknowledged with the next number, and delivered (R224). -/
theorem Listening.takes_data (h : Listening c s) (hc : cfgValid c = true) (hfit : maxBody c ≤ c.rxBufMax) (hp : p.length ≤ 4095)
    (hseq : sq = s.ackNum) : ∃ u y, runAll (arrival (dataFrameOf c p sq a)) s = some u ∧ Listening c u
      ∧ u.out = s.out ++ [.tq (.tSend (ackFrameOf c (s.ackNum + 1))) y, .up (.data p)] ∧ u.ackNum = s.ackNum + 1 := by
  have hrun := h.runAll_data (sq := sq) (a := a) hc hfit hp
  obtain ⟨rfl, hstate, hopen, hin, hbuf, hovf⟩ := h
  obtain ⟨y, n, -, hdata⟩ := State.onData_expected (s := { s with rxSync := true })
    (d := recordOf s.cfg p sq a true s.cfg.txIntegrity s.cfg.ptVendor) hseq
  rw [hdata] at hrun
  exact ⟨_, y, hrun, ⟨rfl, hstate, hopen, hin, hbuf, hovf⟩, rfl, rfl⟩

/-- Data with another number: acknowledged again, and not delivered (R224). -/
theorem Listening.takes_copy (h : Listening c s) (hc : cfgValid c = true) (hfit : maxBody c ≤ c.rxBufMax) (hp : p.length ≤ 4095)
    (hseq : sq ≠ s.ackNum) : ∃ u y, runAll (arrival (dataFrameOf c p sq a)) s = some u ∧ Listening c u
      ∧ u.out = s.out ++ [.tq (.tSend (ackFrameOf c s.ackNum)) y] ∧ u.ackNum = s.ackNum := by
  have hrun := h.runAll_data (sq := sq) (a := a) hc hfit hp
  obtain ⟨rfl, hstate, hopen, hin, hbuf, hovf⟩ := h
  rw [State.onData_unexpected (s := { s with rxSync := true }) hseq] at hrun
  exact ⟨_, _, hrun, ⟨rfl, hstate, hopen, hin, hbuf, hovf⟩, rfl, rfl⟩

/-- Any number of copies (R231). -/
theorem Listening.takes_copies (hc : cfgValid c = true) (hfit : maxBody c ≤ c.rxBufMax) (hp : p.length ≤ 4095) (n : Nat) :
    ∀ {s : State}, Listening c s → sq ≠ s.ackNum → ∃ (u : State) (z : List Answer),
      runAll (List.replicate n (arrival (dataFrameOf c p sq a))).flatten s = some u
        ∧ u.out = s.out ++ z.map (OutMsg.tq (.tSend (ackFrameOf c s.ackNum))) ∧ z.length = n ∧ u.ackNum = s.ackNum := by
  induction n with
  | zero => exact fun {s} _ _ => ⟨s, [], rfl, (List.append_nil _).symm, rfl, rfl⟩
  | succ n ih =>
    intro s h hseq
    obtain ⟨v, y, hrun, hv, hout, hack⟩ := h.takes_copy hc hfit hp hseq (a := a)
    obtain ⟨u, z, hrest, hall, hlen, hlast⟩ := ih hv (hack ▸ hseq)
    refine ⟨u, y :: z, ?_, ?_, by rw [List.length_cons, hlen], hlast.trans hack⟩
    · rw [List.replicate_succ, List.flatten_cons, runAll_append, hrun]
      exact hrest
    · rw [hall, hout, hack, List.append_assoc]
      rfl

/-- The acknowledgement with the next number ends the SEND in flight (R220). -/
theorem Listening.takes_ack (h : Listening c s) (hc : cfgValid c = true) (hfit : maxBody c ≤ c.rxBufMax) (hbusy : s.txBusy = true)
    (hack : a = s.seqNum + 1) : ∃ u, runAll (arrival (ackFrameOf c a)) s = some u ∧ u.out = s.out ++ [.hr .send .ok]
      ∧ u.txBusy = false ∧ u.seqNum = s.seqNum + 1 := by
  have hrun := h.runAll_arrival (p := []) (sq := 0) (a := a) (r := false) (t := Config.ptAck) hc hfit (Nat.zero_le _)
  obtain ⟨rfl, hstate, -⟩ := h
  have hkind : kind s.cfg (recordOf s.cfg [] 0 a false s.cfg.txIntegrity Config.ptAck) = .ack := kind_of_ack rfl
  have hcell : State.dispatch .ack (recordOf s.cfg [] 0 a false s.cfg.txIntegrity Config.ptAck) { s with rxSync := true }
      = State.endSend .ok { s with rxSync := true, seqNum := seqIncr s.seqNum } := by
    have hnext := State.onAck_next_busy (s := { s with rxSync := true })
      (d := recordOf s.cfg [] 0 a false s.cfg.txIntegrity Config.ptAck) hack hbusy
    rw [← hnext]
    simp [State.dispatch, State.dispatchAck, hstate]
  rw [hkind, hcell] at hrun
  exact ⟨_, hrun, rfl, rfl, rfl⟩

/-- An accepted SEND is in flight, and the block listens on (R213). -/
theorem Listening.sends (h : Listening c s) (hidle : s.txBusy = false) (hp : p.length ≤ 4095) : ∃ u x,
    exec (.hostSend p) s = .next u ∧ u.out = s.out ++ [.tq (.tSend (dataFrameOf c p s.seqNum s.ackNum)) x] ∧ Listening c u
      ∧ u.txBusy = true ∧ u.seqNum = s.seqNum := by
  obtain ⟨rfl, hstate, hopen, hin, hbuf, hovf⟩ := h
  obtain ⟨x, n, -, hstart⟩ := s.startSend_answered p
  refine ⟨_, x, (exec_hostSend_of_idle hidle).trans (congrArg Host.Outcome.next ((State.acceptSend_fits hstate hp).trans hstart)), rfl,
    ⟨rfl, hstate, hopen, hin, hbuf, hovf⟩, rfl, rfl⟩

end

end Sys2Proof.Machine

namespace Sys2Proof.Safety

open Machine

/-- Settles O60: the opening of the pair phase by phase; then a SEND, its arrival, its copies and its acknowledgement, one lemma each. -/
theorem exchangeDeliversOnce : Obligations.ExchangeDeliversOnce := by
  constructor
  · intro a b skew hinva hinvb hA hB hc hcfg hfit hN hskew ready
    have hshut : Shut a.cfg b := hcfg ▸ shut_of_closed hinvb hB
    obtain ⟨n, ⟨ja, hja⟩, ⟨jb, hjb⟩, htime⟩ :=
      Joined.eventually_opened (wired_of_cfgValid hc hfit) hN hskew (shut_of_closed hinva hA) hshut
    have hready : ∀ {j : Nat} {s : State}, Phase a.cfg .active ExitFlags.zero j none s → ready s := fun h =>
      ⟨h.state, h.linkOpen, h.inbound, h.rxBuf, h.rxOvf, h.txBusy, (h.nums rfl).1, (h.nums rfl).2⟩
    exact ⟨n, hready hja, hready hjb, htime⟩
  · intro a b p n hc hcfg hfit hsa hsb hoa hob hia hib hba hva hbb hvb hidle hnum hp arrival
    have hA : Listening a.cfg a := ⟨rfl, hsa, hoa, hia, hba, hva⟩
    have hB : Listening a.cfg b := ⟨hcfg, hsb, hob, hib, hbb, hvb⟩
    obtain ⟨a1, x, hsend, hout1, hA1, hbusy1, hseq1⟩ := hA.sends hidle hp
    obtain ⟨b1, y, hrunb, hB1, houtb, hackb⟩ := hB.takes_data hc hfit hp hnum (a := a.ackNum)
    have hnext : a.seqNum ≠ b1.ackNum := by
      rw [hackb, hnum]
      exact seqIncr_ne b.ackNum
    obtain ⟨b2, z, hcopies, houtz, hlen, hack2⟩ := Listening.takes_copies hc hfit hp n hB1 hnext (a := a.ackNum)
    obtain ⟨a2, hruna, houta, hidle2, hseq2⟩ := hA1.takes_ack hc hfit hbusy1 (a := b.ackNum + 1) (by rw [hseq1, hnum])
    refine ⟨a1, b1, b2, a2, dataFrameOf a.cfg p a.seqNum a.ackNum, ackFrameOf a.cfg (b.ackNum + 1), x, y, z, hsend, hout1, hrunb, houtb,
      hcopies, ?_, hlen, hack2, hruna, houta, hidle2, ?_, ?_⟩
    · rw [← hackb]
      exact houtz
    · rw [hseq2, hseq1, hack2, hackb, hnum]
    · rw [hseq2, hseq1]

end Sys2Proof.Safety
